-- ==== Sys2Proof/Word.lean ====
section
/-! DEFINITION. The widths of the values the block handles (spec 00_scope R6, R7, R8; 20_memory R32, R38).
Bit 0 is the least significant bit, every integer is unsigned, `&&&`, `|||`, `~~~`, `<<<`, `>>>` on
`BitVec 8` are the spec's `&`, `|`, `~`, `<<` (truncated to 8 bits) and `>>` (logical), and `++` is the
spec's `{a, b}` with `a` in the high bits. -/

namespace Sys2Proof

/-- A register byte, a mask, an encode result, a field value, a discriminant, a bus address or a decode
input: 8 bits, unsigned (R6, R32). -/
abbrev Byte := BitVec 8

/-- The input signal CMD: one 16-bit command word, presented whole (R25, R37, R55). -/
abbrev CmdWord := BitVec 16

/-- The output signal RESP.DATA (R25). -/
abbrev Data := BitVec 32

/-- The output signal RESP.STATUS (R25). -/
abbrev StatusCode := BitVec 2

/-- An `f32` result, held as its IEEE 754 binary32 pattern `bits32(f)`, bit 31 the sign (R6, R9, R60). -/
abbrev F32 := BitVec 32

end Sys2Proof
end

