-- ==== Sys2Proof/Machine/Bits.lean ====
section
/-! DEFINITION. Bit-field helpers shared by the decoder, the operations and the caller's arithmetic
(spec 00_scope R7, R8, R10). -/

namespace Sys2Proof.Machine

/-- `zext_32(v)` of a byte (R8). -/
def zext32 (b : Byte) : Data := b.setWidth 32

/-- The low byte of RESP.DATA, where a byte result stands (30_encoding R60). -/
def lowByte (d : Data) : Byte := d.setWidth 8

/-- The number of trailing zero bits of a byte (R10; 8 for the zero byte). -/
def trailingZeros (b : Byte) : Nat :=
  ((List.range 8).find? fun i => b.getLsbD i).getD 8

/-- `v[15:12]` of a command word (30_encoding R55). -/
def opField (w : CmdWord) : BitVec 4 := w.extractLsb' 12 4

/-- `v[11:8]` of a command word (30_encoding R55). -/
def setField (w : CmdWord) : BitVec 4 := w.extractLsb' 8 4

/-- `v[7:0]` of a command word (30_encoding R55). -/
def operandField (w : CmdWord) : Byte := w.extractLsb' 0 8

end Sys2Proof.Machine
end

