-- ==== Sys2Proof/Syntax.lean ====
section
/-! DEFINITION. The syntax: the eight closed variant sets (spec 00_scope R2, 30_encoding R47 to R54), the
fields of a command word (R55 to R57), and `Instr`, one constructor per row of opcode_table.json. A
variant operand is a variant, not a byte, so that a call of the typed interface that names no variant
cannot be written (60_exceptions R121); the raw byte of a decode is all 8 bits (R58, CMD16-X). -/

namespace Sys2Proof

/-- Address (R47): a bus address, no register field. -/
inductive Address where
  | primary | secondary
  deriving DecidableEq, Repr

/-- AccelRange (R48), listed from discriminant 0. -/
inductive AccelRange where
  | g16 | g8 | g4 | g2
  deriving DecidableEq, Repr

/-- GyroRange (R49), listed from discriminant 0. -/
inductive GyroRange where
  | deg2000 | deg1000 | deg500 | deg250
  deriving DecidableEq, Repr

/-- PowerMode (R50), in the source's order. -/
inductive PowerMode where
  | sleep | standby | accelLowPower | accelLowNoise | gyroLowNoise | sixAxisLowNoise | idle
  deriving DecidableEq, Repr

/-- AccelOdr (R51): 11 variants, consecutive codes in descending frequency. -/
inductive AccelOdr where
  | hz1600 | hz800 | hz400 | hz200 | hz100 | hz50 | hz25 | hz12_5 | hz6_25 | hz3_125 | hz1_5625
  deriving DecidableEq, Repr

/-- GyroOdr (R52): 8 variants. A set of its own, three members short of AccelOdr (44_odr R106). -/
inductive GyroOdr where
  | hz1600 | hz800 | hz400 | hz200 | hz100 | hz50 | hz25 | hz12_5
  deriving DecidableEq, Repr

/-- AccelBw (R53), listed from discriminant 0. -/
inductive AccelBw where
  | hz10000 | hz180 | hz121 | hz73 | hz53 | hz34 | hz25 | hz16
  deriving DecidableEq, Repr

/-- GyroBw (R54): the same shape as AccelBw, a separate set. -/
inductive GyroBw where
  | hz10000 | hz180 | hz121 | hz73 | hz53 | hz34 | hz25 | hz16
  deriving DecidableEq, Repr

/-- The operations a command can name (R56). -/
inductive Op where
  | mask | enc | dec | scale | freq | dflt | addr
  deriving DecidableEq, Repr

/-- The variant sets a command can name (R57). -/
inductive SetId where
  | addr | arange | grange | pwr | aodr | godr | abw | gbw
  deriving DecidableEq, Repr

/-- The seven sets that own a bitfield of an IMU register byte: all but Address (R2, 10_state R17). -/
inductive RegSet where
  | arange | grange | pwr | aodr | godr | abw | gbw
  deriving DecidableEq, Repr

/-- The three fields of a command word: OP = CMD[15:12], SET = CMD[11:8], OPERAND = CMD[7:0] (R55). -/
structure Command where
  op      : BitVec 4
  set     : BitVec 4
  operand : Byte
  deriving DecidableEq, Repr

/-- Why a command word names no legal command: the checks of `decode_cmd` (R61, R62). All of them are
reported alike, as ILLEGAL_COMMAND; the names are the model's (notes/assumptions/10.md). -/
inductive IllegalReason where
  /-- OP is 0x7..0xF. -/
  | reservedOp
  /-- SET is 8..15. -/
  | reservedSet
  /-- The (OP, SET) pair is blank in the table of R59. -/
  | blankPair
  /-- MASK or DFLT with an OPERAND other than 0x00. -/
  | operandNotZero
  /-- ENC, SCALE, FREQ or ADDR with an OPERAND that is no discriminant of the set. -/
  | operandNotVariant
  deriving DecidableEq, Repr

/-- The two failures a command can report (60_exceptions R119). Neither carries a payload. -/
inductive Failure where
  | invalidDiscriminant
  | illegalCommand
  deriving DecidableEq, Repr

/-- The result of a fallible operation: `Ok(v)` or a raised failure (R9, 10_state R23). -/
inductive Result (V : Type) where
  | ok (v : V)
  | fail (f : Failure)
  deriving DecidableEq, Repr

/-- The 36 operations, one per row of opcode_table.json (R59), in the table's order. -/
inductive Instr where
  | maskArange | maskGrange | maskPwr | maskAodr | maskGodr | maskAbw | maskGbw
  | encArange (v : AccelRange)
  | encGrange (v : GyroRange)
  | encPwr (v : PowerMode)
  | encAodr (v : AccelOdr)
  | encGodr (v : GyroOdr)
  | encAbw (v : AccelBw)
  | encGbw (v : GyroBw)
  | decArange (x : Byte)
  | decGrange (x : Byte)
  | decPwr (x : Byte)
  | decAodr (x : Byte)
  | decGodr (x : Byte)
  | decAbw (x : Byte)
  | decGbw (x : Byte)
  | scaleArange (v : AccelRange)
  | scaleGrange (v : GyroRange)
  | freqAodr (v : AccelOdr)
  | freqGodr (v : GyroOdr)
  | freqAbw (v : AccelBw)
  | freqGbw (v : GyroBw)
  | dfltAddr | dfltArange | dfltGrange | dfltPwr | dfltAodr | dfltGodr | dfltAbw | dfltGbw
  | addrAddr (v : Address)
  deriving DecidableEq, Repr

/-- The accelerometer sub-states that R50 reads off the variant names; code 01 has no meaning (N7). -/
inductive AccelSubState where
  | off | lowPower | lowNoise
  deriving DecidableEq, Repr

/-- The gyroscope sub-states that R50 reads off the variant names; code 10 has no meaning (N7). -/
inductive GyroSubState where
  | off | standby | lowNoise
  deriving DecidableEq, Repr

end Sys2Proof
end

