-- ==== Sys2Proof/Config.lean ====
section
/-! DEFINITION. The parameters of the block (spec 00_scope R6) that the source leaves open and
92_eei_decisions D8, D9 and D11 fix: a claim at the typed level can be stated for every `Config`. The
values this hardware takes stand in Machine/Parameters.lean. There is no free value: 60_exceptions R136
and 10_state R30 say that no operation yields an unspecified one. -/

namespace Sys2Proof

/-- A decimal constant, `digits / 10 ^ places` (the argument of the primitive `f32(x)` of R9). -/
structure Decimal where
  digits : Nat
  places : Nat
  deriving DecidableEq, Repr

/-- The named parameters of R6. -/
structure Config where
  /-- ACCEL_SCALE_G8, counts per g (D8). -/
  accelScaleG8 : Decimal
  /-- ACCEL_SCALE_G4, counts per g (D8). -/
  accelScaleG4 : Decimal
  /-- ACCEL_SCALE_G2, counts per g (D8). -/
  accelScaleG2 : Decimal
  /-- GYRO_SCALE_DEG500, counts per deg/s (D8). -/
  gyroScaleDeg500 : Decimal
  /-- GYRO_SCALE_DEG1000, counts per deg/s (D8). -/
  gyroScaleDeg1000 : Decimal
  /-- GYRO_SCALE_DEG2000, counts per deg/s (D8). -/
  gyroScaleDeg2000 : Decimal
  /-- BW_HZ_1, Hz, both sensors (D9). -/
  bwHz1 : Decimal
  /-- BW_HZ_2 (D9). -/
  bwHz2 : Decimal
  /-- BW_HZ_3 (D9). -/
  bwHz3 : Decimal
  /-- BW_HZ_4 (D9). -/
  bwHz4 : Decimal
  /-- BW_HZ_5 (D9). -/
  bwHz5 : Decimal
  /-- BW_HZ_6 (D9). -/
  bwHz6 : Decimal
  /-- ADDRESS_DEFAULT (D11). -/
  addressDefault : Address
  deriving DecidableEq, Repr

end Sys2Proof
end

