-- ==== Sys2Proof/Machine/Parameters.lean ====
section
/-! DEFINITION. The value this hardware takes for each parameter (spec 00_scope R6; 92_eei_decisions D8,
D9, D11; notes/assumptions/4.md to 6.md). -/

namespace Sys2Proof.Machine

/-- The parameters of R6 at the values D8, D9 and D11 give them. -/
def params : Config where
  accelScaleG8     := { digits := 4096, places := 0 }
  accelScaleG4     := { digits := 8192, places := 0 }
  accelScaleG2     := { digits := 16384, places := 0 }
  gyroScaleDeg500  := { digits := 655, places := 1 }
  gyroScaleDeg1000 := { digits := 328, places := 1 }
  gyroScaleDeg2000 := { digits := 164, places := 1 }
  bwHz1 := { digits := 180, places := 0 }
  bwHz2 := { digits := 121, places := 0 }
  bwHz3 := { digits := 73, places := 0 }
  bwHz4 := { digits := 53, places := 0 }
  bwHz5 := { digits := 34, places := 0 }
  bwHz6 := { digits := 25, places := 0 }
  addressDefault := .primary

end Sys2Proof.Machine
end

