-- ==== Sys2Proof/Machine/Variants.lean ====
section
/-! DEFINITION. The constant state of the block: each variant set's table, default and bitfield descriptor
(spec 10_state R17, R20 to R22; 30_encoding R47 to R54; 70_reset_and_hazards R137). No operation changes
any of it (R29), so it is not part of State. -/

namespace Sys2Proof

/-- The discriminants of R47: the bus addresses themselves. -/
def Address.disc : Address → Byte
  | .primary => 0x68
  | .secondary => 0x69

/-- The discriminants of R48. -/
def AccelRange.disc : AccelRange → Byte
  | .g16 => 0b00
  | .g8 => 0b01
  | .g4 => 0b10
  | .g2 => 0b11

/-- The discriminants of R49. -/
def GyroRange.disc : GyroRange → Byte
  | .deg2000 => 0b00
  | .deg1000 => 0b01
  | .deg500 => 0b10
  | .deg250 => 0b11

/-- The discriminants of R50. -/
def PowerMode.disc : PowerMode → Byte
  | .sleep => 0b00000
  | .standby => 0b00100
  | .accelLowPower => 0b00010
  | .accelLowNoise => 0b00011
  | .gyroLowNoise => 0b01100
  | .sixAxisLowNoise => 0b01111
  | .idle => 0b10000

/-- The discriminants of R51. -/
def AccelOdr.disc : AccelOdr → Byte
  | .hz1600 => 0b0101
  | .hz800 => 0b0110
  | .hz400 => 0b0111
  | .hz200 => 0b1000
  | .hz100 => 0b1001
  | .hz50 => 0b1010
  | .hz25 => 0b1011
  | .hz12_5 => 0b1100
  | .hz6_25 => 0b1101
  | .hz3_125 => 0b1110
  | .hz1_5625 => 0b1111

/-- The discriminants of R52. -/
def GyroOdr.disc : GyroOdr → Byte
  | .hz1600 => 0b0101
  | .hz800 => 0b0110
  | .hz400 => 0b0111
  | .hz200 => 0b1000
  | .hz100 => 0b1001
  | .hz50 => 0b1010
  | .hz25 => 0b1011
  | .hz12_5 => 0b1100

/-- The discriminants of R53 (codes 1 to 6: D9). -/
def AccelBw.disc : AccelBw → Byte
  | .hz10000 => 0b000
  | .hz180 => 0b001
  | .hz121 => 0b010
  | .hz73 => 0b011
  | .hz53 => 0b100
  | .hz34 => 0b101
  | .hz25 => 0b110
  | .hz16 => 0b111

/-- The discriminants of R54 (codes 1 to 6: D9). -/
def GyroBw.disc : GyroBw → Byte
  | .hz10000 => 0b000
  | .hz180 => 0b001
  | .hz121 => 0b010
  | .hz73 => 0b011
  | .hz53 => 0b100
  | .hz34 => 0b101
  | .hz25 => 0b110
  | .hz16 => 0b111

/-- A closed variant set: its variants, their discriminants, its default (R10, R20, R22). -/
structure VariantSet (V : Type) where
  variants : List V
  disc     : V → Byte
  dflt     : V

/-- A variant set that owns a bitfield descriptor: a constant mask and a constant shift (R17). -/
structure FieldSet (V : Type) extends VariantSet V where
  mask  : Byte
  shift : Nat

namespace Machine

/-- Address; its default is the parameter ADDRESS_DEFAULT (R47, D11). It has no descriptor (R17, R79). -/
def addressSet : VariantSet Address where
  variants := [.primary, .secondary]
  disc := Address.disc
  dflt := params.addressDefault

/-- AccelRange (R17, R48, R137). -/
def accelRangeField : FieldSet AccelRange where
  variants := [.g16, .g8, .g4, .g2]
  disc := AccelRange.disc
  dflt := .g16
  mask := 0b0110_0000
  shift := 5

/-- GyroRange (R17, R49, R137). -/
def gyroRangeField : FieldSet GyroRange where
  variants := [.deg2000, .deg1000, .deg500, .deg250]
  disc := GyroRange.disc
  dflt := .deg2000
  mask := 0b0110_0000
  shift := 5

/-- PowerMode (R17, R50, R137). -/
def powerModeField : FieldSet PowerMode where
  variants := [.sleep, .standby, .accelLowPower, .accelLowNoise, .gyroLowNoise, .sixAxisLowNoise, .idle]
  disc := PowerMode.disc
  dflt := .sleep
  mask := 0b0001_1111
  shift := 0

/-- AccelOdr (R17, R51, R137). -/
def accelOdrField : FieldSet AccelOdr where
  variants := [.hz1600, .hz800, .hz400, .hz200, .hz100, .hz50, .hz25, .hz12_5, .hz6_25, .hz3_125, .hz1_5625]
  disc := AccelOdr.disc
  dflt := .hz800
  mask := 0b0000_1111
  shift := 0

/-- GyroOdr (R17, R52, R137). -/
def gyroOdrField : FieldSet GyroOdr where
  variants := [.hz1600, .hz800, .hz400, .hz200, .hz100, .hz50, .hz25, .hz12_5]
  disc := GyroOdr.disc
  dflt := .hz800
  mask := 0b0000_1111
  shift := 0

/-- AccelBw (R17, R53, R137; that the default 180 Hz is code 1 rests on D9). -/
def accelBwField : FieldSet AccelBw where
  variants := [.hz10000, .hz180, .hz121, .hz73, .hz53, .hz34, .hz25, .hz16]
  disc := AccelBw.disc
  dflt := .hz180
  mask := 0b0000_0111
  shift := 0

/-- GyroBw (R17, R54, R137; that the default 180 Hz is code 1 rests on D9). -/
def gyroBwField : FieldSet GyroBw where
  variants := [.hz10000, .hz180, .hz121, .hz73, .hz53, .hz34, .hz25, .hz16]
  disc := GyroBw.disc
  dflt := .hz180
  mask := 0b0000_0111
  shift := 0

/-- The variant of a set that the identifier `x` names: the one whose discriminant is `x`, compared as a
whole byte (R58, R69, R70). -/
def lookup {V : Type} (S : VariantSet V) (x : Byte) : Option V :=
  S.variants.find? fun v => S.disc v == x

/-- The mask MASK_S of a register-field set (R17). -/
def regMask : RegSet → Byte
  | .arange => accelRangeField.mask
  | .grange => gyroRangeField.mask
  | .pwr => powerModeField.mask
  | .aodr => accelOdrField.mask
  | .godr => gyroOdrField.mask
  | .abw => accelBwField.mask
  | .gbw => gyroBwField.mask

/-- The shift SHIFT_S of a register-field set (R17). -/
def regShift : RegSet → Nat
  | .arange => accelRangeField.shift
  | .grange => gyroRangeField.shift
  | .pwr => powerModeField.shift
  | .aodr => accelOdrField.shift
  | .godr => gyroOdrField.shift
  | .abw => accelBwField.shift
  | .gbw => gyroBwField.shift

/-- The discriminants of a register-field set, in the order of its table (R48 to R54). -/
def regDiscs : RegSet → List Byte
  | .arange => accelRangeField.variants.map AccelRange.disc
  | .grange => gyroRangeField.variants.map GyroRange.disc
  | .pwr => powerModeField.variants.map PowerMode.disc
  | .aodr => accelOdrField.variants.map AccelOdr.disc
  | .godr => gyroOdrField.variants.map GyroOdr.disc
  | .abw => accelBwField.variants.map AccelBw.disc
  | .gbw => gyroBwField.variants.map GyroBw.disc

/-- The discriminant of a register-field set's default variant (R24, R137). -/
def regDefault : RegSet → Byte
  | .arange => accelRangeField.dflt.disc
  | .grange => gyroRangeField.dflt.disc
  | .pwr => powerModeField.dflt.disc
  | .aodr => accelOdrField.dflt.disc
  | .godr => gyroOdrField.dflt.disc
  | .abw => accelBwField.dflt.disc
  | .gbw => gyroBwField.dflt.disc

/-- The largest right-shifted field value, `MASK_S >> SHIFT_S` (R18). -/
def regMax (f : RegSet) : Byte := regMask f >>> regShift f

/-- The legal unshifted values of a field, in rising order (R24, R63). -/
def legalValues (f : RegSet) : List Byte :=
  ((List.range ((regMax f).toNat + 1)).map (BitVec.ofNat 8)).filter fun x => (regDiscs f).contains x

/-- The reserved unshifted values of a field, in rising order: within the field's width and no variant's
discriminant (R24, R63). -/
def reservedValues (f : RegSet) : List Byte :=
  ((List.range ((regMax f).toNat + 1)).map (BitVec.ofNat 8)).filter fun x => !(regDiscs f).contains x

/-- A caller may OR two fields into one register byte without collision only when their masks are
disjoint (R44, 70_reset_and_hazards R142). -/
def disjoint (f g : RegSet) : Bool := regMask f &&& regMask g == 0

/-- The set id of a register-field set (R17, R19). -/
def regSetId : RegSet → SetId
  | .arange => .arange
  | .grange => .grange
  | .pwr => .pwr
  | .aodr => .aodr
  | .godr => .godr
  | .abw => .abw
  | .gbw => .gbw

end Machine
end Sys2Proof
end

