-- ==== Sys2Proof/Decode.lean ====
section
/-! DEFINITION. The command decoder, total over all 65536 words and rejecting by name (spec 30_encoding R55
to R62, R64), and the encoder, written from the same tables. A word is presented whole (20_memory R37), so
no byte order enters. -/

namespace Sys2Proof

/-- What the decoder reads from a command word. -/
inductive Decoded where
  | instr (i : Instr)
  | illegal (why : IllegalReason)
  deriving DecidableEq, Repr

/-- The three fields of a command word (R55). -/
def Command.ofWord (w : CmdWord) : Command :=
  { op := Machine.opField w, set := Machine.setField w, operand := Machine.operandField w }

/-- The command word of three fields, OP in the high bits (R55). -/
def Command.word (c : Command) : CmdWord := c.op ++ c.set ++ c.operand

/-- The OP value of an operation (R56). -/
def Op.code : Op → BitVec 4
  | .mask => 0x0
  | .enc => 0x1
  | .dec => 0x2
  | .scale => 0x3
  | .freq => 0x4
  | .dflt => 0x5
  | .addr => 0x6

/-- The operation an OP value names; 0x7 to 0xF are reserved (R56). -/
def Op.ofCode (c : BitVec 4) : Option Op :=
  match c.toNat with
  | 0 => some .mask
  | 1 => some .enc
  | 2 => some .dec
  | 3 => some .scale
  | 4 => some .freq
  | 5 => some .dflt
  | 6 => some .addr
  | _ => none

/-- The SET value of a variant set (R57). -/
def SetId.code : SetId → BitVec 4
  | .addr => 0
  | .arange => 1
  | .grange => 2
  | .pwr => 3
  | .aodr => 4
  | .godr => 5
  | .abw => 6
  | .gbw => 7

/-- The variant set a SET value names; 8 to 15 are reserved (R57). -/
def SetId.ofCode (c : BitVec 4) : Option SetId :=
  match c.toNat with
  | 0 => some .addr
  | 1 => some .arange
  | 2 => some .grange
  | 3 => some .pwr
  | 4 => some .aodr
  | 5 => some .godr
  | 6 => some .abw
  | 7 => some .gbw
  | _ => none

/-- Operand form CMD16-N: no operand, OPERAND is 0x00 (R58). -/
def decodeNoOperand (i : Instr) (operand : Byte) : Decoded :=
  if operand = 0x00 then .instr i else .illegal .operandNotZero

/-- Operand form CMD16-V: OPERAND is a variant identifier of the set (R58). -/
def decodeVariantOperand {V : Type} (S : VariantSet V) (i : V → Instr) (operand : Byte) : Decoded :=
  match Machine.lookup S operand with
  | some v => .instr (i v)
  | none => .illegal .operandNotVariant

/-- `decode_cmd` once OP and SET are known: the table of R59, then the operand check of R61. An operand of
DEC is never refused (R61). -/
def decodePair (op : Op) (set : SetId) (operand : Byte) : Decoded :=
  match op, set with
  | .mask, .arange => decodeNoOperand .maskArange operand
  | .mask, .grange => decodeNoOperand .maskGrange operand
  | .mask, .pwr => decodeNoOperand .maskPwr operand
  | .mask, .aodr => decodeNoOperand .maskAodr operand
  | .mask, .godr => decodeNoOperand .maskGodr operand
  | .mask, .abw => decodeNoOperand .maskAbw operand
  | .mask, .gbw => decodeNoOperand .maskGbw operand
  | .enc, .arange => decodeVariantOperand Machine.accelRangeField.toVariantSet .encArange operand
  | .enc, .grange => decodeVariantOperand Machine.gyroRangeField.toVariantSet .encGrange operand
  | .enc, .pwr => decodeVariantOperand Machine.powerModeField.toVariantSet .encPwr operand
  | .enc, .aodr => decodeVariantOperand Machine.accelOdrField.toVariantSet .encAodr operand
  | .enc, .godr => decodeVariantOperand Machine.gyroOdrField.toVariantSet .encGodr operand
  | .enc, .abw => decodeVariantOperand Machine.accelBwField.toVariantSet .encAbw operand
  | .enc, .gbw => decodeVariantOperand Machine.gyroBwField.toVariantSet .encGbw operand
  | .dec, .arange => .instr (.decArange operand)
  | .dec, .grange => .instr (.decGrange operand)
  | .dec, .pwr => .instr (.decPwr operand)
  | .dec, .aodr => .instr (.decAodr operand)
  | .dec, .godr => .instr (.decGodr operand)
  | .dec, .abw => .instr (.decAbw operand)
  | .dec, .gbw => .instr (.decGbw operand)
  | .scale, .arange => decodeVariantOperand Machine.accelRangeField.toVariantSet .scaleArange operand
  | .scale, .grange => decodeVariantOperand Machine.gyroRangeField.toVariantSet .scaleGrange operand
  | .freq, .aodr => decodeVariantOperand Machine.accelOdrField.toVariantSet .freqAodr operand
  | .freq, .godr => decodeVariantOperand Machine.gyroOdrField.toVariantSet .freqGodr operand
  | .freq, .abw => decodeVariantOperand Machine.accelBwField.toVariantSet .freqAbw operand
  | .freq, .gbw => decodeVariantOperand Machine.gyroBwField.toVariantSet .freqGbw operand
  | .dflt, .addr => decodeNoOperand .dfltAddr operand
  | .dflt, .arange => decodeNoOperand .dfltArange operand
  | .dflt, .grange => decodeNoOperand .dfltGrange operand
  | .dflt, .pwr => decodeNoOperand .dfltPwr operand
  | .dflt, .aodr => decodeNoOperand .dfltAodr operand
  | .dflt, .godr => decodeNoOperand .dfltGodr operand
  | .dflt, .abw => decodeNoOperand .dfltAbw operand
  | .dflt, .gbw => decodeNoOperand .dfltGbw operand
  | .addr, .addr => decodeVariantOperand Machine.addressSet .addrAddr operand
  | _, _ => .illegal .blankPair

/-- `decode_cmd` on the fields of a command word, its checks in the order of R61. -/
def decodeCommand (c : Command) : Decoded :=
  match Op.ofCode c.op, SetId.ofCode c.set with
  | none, _ => .illegal .reservedOp
  | some _, none => .illegal .reservedSet
  | some op, some set => decodePair op set c.operand

/-- `decode_cmd`, total over all command words (R61). -/
def decode (w : CmdWord) : Decoded := decodeCommand (Command.ofWord w)

/-- The operation an instruction performs (the OP part of its mnemonic, R65). -/
def Instr.op : Instr → Op
  | .maskArange | .maskGrange | .maskPwr | .maskAodr | .maskGodr | .maskAbw | .maskGbw => .mask
  | .encArange _ | .encGrange _ | .encPwr _ | .encAodr _ | .encGodr _ | .encAbw _ | .encGbw _ => .enc
  | .decArange _ | .decGrange _ | .decPwr _ | .decAodr _ | .decGodr _ | .decAbw _ | .decGbw _ => .dec
  | .scaleArange _ | .scaleGrange _ => .scale
  | .freqAodr _ | .freqGodr _ | .freqAbw _ | .freqGbw _ => .freq
  | .dfltAddr | .dfltArange | .dfltGrange | .dfltPwr | .dfltAodr | .dfltGodr | .dfltAbw | .dfltGbw => .dflt
  | .addrAddr _ => .addr

/-- The variant set an instruction works on (the SET part of its mnemonic, R65). -/
def Instr.setId : Instr → SetId
  | .dfltAddr | .addrAddr _ => .addr
  | .maskArange | .encArange _ | .decArange _ | .scaleArange _ | .dfltArange => .arange
  | .maskGrange | .encGrange _ | .decGrange _ | .scaleGrange _ | .dfltGrange => .grange
  | .maskPwr | .encPwr _ | .decPwr _ | .dfltPwr => .pwr
  | .maskAodr | .encAodr _ | .decAodr _ | .freqAodr _ | .dfltAodr => .aodr
  | .maskGodr | .encGodr _ | .decGodr _ | .freqGodr _ | .dfltGodr => .godr
  | .maskAbw | .encAbw _ | .decAbw _ | .freqAbw _ | .dfltAbw => .abw
  | .maskGbw | .encGbw _ | .decGbw _ | .freqGbw _ | .dfltGbw => .gbw

/-- The OPERAND byte of an instruction (R58): 0x00, a discriminant, or the raw byte of a decode. -/
def Instr.operand : Instr → Byte
  | .maskArange | .maskGrange | .maskPwr | .maskAodr | .maskGodr | .maskAbw | .maskGbw => 0x00
  | .dfltAddr | .dfltArange | .dfltGrange | .dfltPwr | .dfltAodr | .dfltGodr | .dfltAbw | .dfltGbw => 0x00
  | .encArange v | .scaleArange v => v.disc
  | .encGrange v | .scaleGrange v => v.disc
  | .encPwr v => v.disc
  | .encAodr v | .freqAodr v => v.disc
  | .encGodr v | .freqGodr v => v.disc
  | .encAbw v | .freqAbw v => v.disc
  | .encGbw v | .freqGbw v => v.disc
  | .addrAddr v => v.disc
  | .decArange x | .decGrange x | .decPwr x | .decAodr x | .decGodr x | .decAbw x | .decGbw x => x

/-- The fields of an instruction's command word (R55). -/
def Instr.command (i : Instr) : Command :=
  { op := i.op.code, set := i.setId.code, operand := i.operand }

/-- The encoder: the command word of an instruction (R55, R58). -/
def encode (i : Instr) : CmdWord := i.command.word

/-- The word of an operation, a set and an operand byte, legal or not (R55). -/
def cmdWord (op : Op) (set : SetId) (operand : Byte) : CmdWord :=
  Command.word { op := op.code, set := set.code, operand := operand }

/-- The instruction the decoder reads from a table word. Every command is one 16-bit word (R55, R64). -/
def decodeTableWord (nbits w : Nat) : Option Instr :=
  if nbits = 16 then
    match decode (BitVec.ofNat 16 w) with
    | .instr i => some i
    | .illegal _ => none
  else none

end Sys2Proof
end

