-- ==== Sys2Proof/Machine/State.lean ====
section
/-! DEFINITION. The state of the machine (spec 10_state R13 to R16, R23, R25, R29, R31). The block itself
holds nothing: no register, program counter, flag, memory or hidden state. What State holds is the two
signals of the command interface (R25) and the commands the callers have requested and not yet been
answered (R15; notes/assumptions/1.md), so that a command and its response can be seen. -/

namespace Sys2Proof.Machine

/-- The output RESP: two signals, no storage (R25). -/
structure Response where
  /-- RESP.STATUS: 0 OK, 1 INVALID_DISCRIMINANT, 2 ILLEGAL_COMMAND, 3 never produced (R25, R27). -/
  status : StatusCode
  /-- RESP.DATA, laid out as 30_encoding R60 says; 0 when the status is not 0 (R26). -/
  data   : Data
  deriving DecidableEq, Repr

/-- The interface of the block at one moment. -/
structure State where
  /-- The input CMD: the command word presented to the block (R25). -/
  cmd     : CmdWord
  /-- Requests of the callers not yet presented, the next first: the caller's, not the block's (R15). -/
  pending : List CmdWord
  /-- The output RESP (R25). -/
  resp    : Response
  deriving DecidableEq, Repr

/-- Why a run stops with a fault. No step of the block does: both failures of the block are responses
(60_exceptions R118, R136). -/
inductive Fault where
  /-- A caller read RESP.STATUS = 3, which no conforming block produces (R27, 93 item I6). Raised by the
  caller's `observe` of Machine/Caller.lean alone. Safe: the model stops where the spec gives no meaning. -/
  | reservedStatus
  deriving DecidableEq, Repr

/-- Why an instruction has no meaning in the model. -/
inductive Refusal where
  /-- Raised by an arm of `exec` whose instruction has no meaning yet; no arm raises it now. Safe. -/
  | notModelled (mnemonic : String)
  deriving DecidableEq, Repr

/-- The interface right after reset. Reset of the block sets nothing (R29, R139) and the spec names no idle
value of CMD: CMD = 0x0000 is a design choice (notes/assumptions/2.md). RESP is the response the rules give
that word, ILLEGAL_COMMAND with DATA 0, because RESP is a function of CMD alone (R25). No command has been
requested. -/
def State.reset : State where
  cmd := 0x0000
  pending := []
  resp := { status := 2, data := 0 }

end Sys2Proof.Machine
end

