-- ==== Sys2Proof/Machine/Flags.lean ====
section
/-! DEFINITION. RESP.STATUS. The block has no status flags that persist (spec 10_state R23); the status is
an output that tells success from failure (60_exceptions R119). -/

namespace Sys2Proof.Machine

/-- STATUS 0: success (R119). -/
def statusOk : StatusCode := 0

/-- The STATUS of a failure: 1 INVALID_DISCRIMINANT, 2 ILLEGAL_COMMAND (R119). -/
def failureStatus : Failure → StatusCode
  | .invalidDiscriminant => 1
  | .illegalCommand => 2

end Sys2Proof.Machine
end

