-- ==== Sys2Proof/Machine/Operands.lean ====
section
/-! DEFINITION. Operand assembly and the typed contracts every variant set satisfies (spec 30_encoding R45,
R46; 40_field_abstraction R67 to R74). The operand forms of a command word (R58) are decoded in
Decode.lean: no operand, a variant, or the raw byte of a decode. -/

namespace Sys2Proof.Machine

/-- `encode_S(v) = disc(v) << SHIFT_S`, 8 bits, a logical shift (R45, R67). Total. -/
def encodeField {V : Type} (F : FieldSet V) (v : V) : Byte := F.disc v <<< F.shift

/-- `decode_S(x)`: the variant whose discriminant is the whole byte `x`, else InvalidDiscriminant; `x` is
neither masked nor shifted (R69, R70). -/
def decodeField {V : Type} (F : FieldSet V) (x : Byte) : Result V :=
  match lookup F.toVariantSet x with
  | some v => .ok v
  | none => .fail .invalidDiscriminant

/-- `default_S()` (R74). -/
def defaultVariant {V : Type} (S : VariantSet V) : V := S.dflt

/-- A decode input as the caller must prepare it: the register byte masked, then shifted right to the
field's base, `(raw & MASK_S) >> SHIFT_S` (R46, 70_reset_and_hazards R141). -/
def prepareField (f : RegSet) (raw : Byte) : Byte := (raw &&& regMask f) >>> regShift f

end Sys2Proof.Machine
end

