-- ==== Sys2Proof/Machine/Ops.lean ====
section
/-! DEFINITION. The shared operations: requesting a command, driving CMD, answering, raising a failure (spec 10_state
R15, R25, R26; 30_encoding R60; 60_exceptions R118, R126, R127). There is no memory and no register to
operate on. -/

namespace Sys2Proof.Machine

/-- A caller requests a command: an input of the machine, after the requests already waiting (R15). -/
def State.request (s : State) (w : CmdWord) : State := { s with pending := s.pending ++ [w] }

/-- The command word the next step presents: the first waiting request, else the word CMD still carries. -/
def nextWord (s : State) : CmdWord :=
  match s.pending with
  | [] => s.cmd
  | w :: _ => w

/-- The state in which that request is no longer waiting. -/
def takeRequest (s : State) : State := { s with pending := s.pending.tail }

/-- CMD takes a word; nothing else changes (R25). -/
def State.drive (s : State) (w : CmdWord) : State := { s with cmd := w }

/-- RESP takes a value; nothing else changes (R39). -/
def State.respond (s : State) (r : Response) : State := { s with resp := r }

/-- A successful answer: STATUS 0 and the result in DATA, produced whole (R38, R60). -/
def answerOk (d : Data) (s : State) : Host.Outcome State Fault Refusal :=
  .next (s.respond { status := statusOk, data := d })

/-- A successful answer with a byte, `zext_32` of it (R60). -/
def answerByte (b : Byte) (s : State) : Host.Outcome State Fault Refusal := answerOk (zext32 b) s

/-- A successful answer with an `f32`, its pattern `bits32` (R60). -/
def answerF32 (f : F32) (s : State) : Host.Outcome State Fault Refusal := answerOk f s

/-- The one exception operation: a failure is a returned value. RESP.STATUS is the failure's code,
RESP.DATA is 0, no payload is recorded, nothing is saved, no mode changes, control goes nowhere (R26, R118,
R119, R126). There is no return from it: the next command is served as if none had failed (R127). -/
def raise (f : Failure) (s : State) : Host.Outcome State Fault Refusal :=
  .next (s.respond { status := failureStatus f, data := 0 })

/-- The answer to a decode of set `F`: the identifier of the decoded variant, or the failure (R60, R69). -/
def answerDecode {V : Type} (F : FieldSet V) (x : Byte) (s : State) : Host.Outcome State Fault Refusal :=
  match decodeField F x with
  | .ok v => answerByte (F.disc v) s
  | .fail f => raise f s

/-- The answer to a default accessor: the identifier of the default variant (R60, R74). -/
def answerDefault {V : Type} (S : VariantSet V) (s : State) : Host.Outcome State Fault Refusal :=
  answerByte (S.disc (defaultVariant S)) s

end Sys2Proof.Machine
end

