-- ==== Sys2Proof/Machine/Address.lean ====
section
/-! DEFINITION. The instructions on Address (spec 41_address R77 to R79; 20_memory R34). -/

namespace Sys2Proof.Machine

/-- The bus address of an Address variant, used directly: no shift, no read/write bit (R34, R77). -/
def busAddress (a : Address) : Byte := addressSet.disc a

/-- ADDR.ADDR a (R77). -/
def execAddrAddr (a : Address) (s : State) : Host.Outcome State Fault Refusal := answerByte (busAddress a) s

/-- DFLT.ADDR (R78, D11). -/
def execDfltAddr (s : State) : Host.Outcome State Fault Refusal := answerDefault addressSet s

end Sys2Proof.Machine
end

