-- ==== Sys2Proof/Machine/Float32.lean ====
section
/-! DEFINITION. The primitive `f32(x)` and its pattern `bits32` (spec 00_scope R9, 30_encoding R60,
93_implementation_defined G1): the binary32 value nearest to a constant, ties to even, computed exactly on
naturals. The block's constants are positive, so the sign bit is 0. -/

namespace Sys2Proof.Machine

/-- `n / d` rounded to the nearest integer, a tie to the even one (`d` positive). -/
def roundHalfEven (n d : Nat) : Nat :=
  let q := n / d
  let r := n % d
  if 2 * r < d then q
  else if d < 2 * r then q + 1
  else if q % 2 = 0 then q else q + 1

/-- The binade of `n / d`: 0 where one unit in the last place is 2^-149 (the subnormals and the smallest
normal binade), one more for each doubling. -/
def f32Binade (n d : Nat) : Nat := Nat.log2 (n * 2 ^ 149 / d) - 23

/-- The pattern of the binary32 value nearest to the nonnegative rational `n / d`, ties to even; a value
too large to round to a finite one gives the pattern of infinity. A significand that rounds up to 2^24
carries into the exponent field, as it must. -/
def f32Pattern (n d : Nat) : Nat :=
  min (f32Binade n d * 2 ^ 23 + roundHalfEven (n * 2 ^ 149) (d * 2 ^ f32Binade n d)) 0x7F800000

/-- `bits32(f32(n / d))` (R9). -/
def f32OfRatio (n d : Nat) : F32 := BitVec.ofNat 32 (f32Pattern n d)

/-- `bits32(f32(x))` of a decimal constant `x` (R9). -/
def f32OfDecimal : Decimal → F32
  | { digits, places } => f32OfRatio digits (10 ^ places)

/-- What a finite binary32 pattern with sign 0 stands for, counted in units of 2^-149 (the smallest
subnormal): the fraction itself where the exponent field is 0, otherwise the fraction with its hidden bit,
scaled by the exponent field. -/
def f32Units (p : Nat) : Nat :=
  if p / 2 ^ 23 = 0 then p % 2 ^ 23 else (2 ^ 23 + p % 2 ^ 23) * 2 ^ (p / 2 ^ 23 - 1)

end Sys2Proof.Machine
end

