-- ==== Sys2Proof/Machine/Bandwidth.lean ====
section
/-! DEFINITION. The instructions on AccelBw and GyroBw (spec 45_bandwidth R107 to R117). -/

namespace Sys2Proof.Machine

/-- `as_f32(v)` in Hz of an AccelBw variant, as the decimal constant of R110 under the parameters `c`. The
10000 of code 0 is the bypass sentinel, not a cutoff (R117). -/
def accelBwConstant (c : Config) : AccelBw → Decimal
  | .hz10000 => { digits := 10000, places := 0 }
  | .hz180 => c.bwHz1
  | .hz121 => c.bwHz2
  | .hz73 => c.bwHz3
  | .hz53 => c.bwHz4
  | .hz34 => c.bwHz5
  | .hz25 => c.bwHz6
  | .hz16 => { digits := 16, places := 0 }

/-- The same for GyroBw (R115). -/
def gyroBwConstant (c : Config) : GyroBw → Decimal
  | .hz10000 => { digits := 10000, places := 0 }
  | .hz180 => c.bwHz1
  | .hz121 => c.bwHz2
  | .hz73 => c.bwHz3
  | .hz53 => c.bwHz4
  | .hz34 => c.bwHz5
  | .hz25 => c.bwHz6
  | .hz16 => { digits := 16, places := 0 }

/-- The accelerometer bandwidth as an `f32` (R73, R110). -/
def accelBwHz (c : Config) (v : AccelBw) : F32 := f32OfDecimal (accelBwConstant c v)

/-- The gyroscope bandwidth as an `f32` (R73, R115). -/
def gyroBwHz (c : Config) (v : GyroBw) : F32 := f32OfDecimal (gyroBwConstant c v)

/-- The accelerometer filter's cutoff, as a consumer must read the setting: none for the bypass code, which
means "no filtering", and the reported frequency otherwise (R117). -/
def accelBwCutoff (c : Config) : AccelBw → Option F32
  | .hz10000 => none
  | v => some (accelBwHz c v)

/-- The gyroscope filter's cutoff, as a consumer must read the setting (R117). -/
def gyroBwCutoff (c : Config) : GyroBw → Option F32
  | .hz10000 => none
  | v => some (gyroBwHz c v)

/-- MASK.ABW (R107). -/
def execMaskAbw (s : State) : Host.Outcome State Fault Refusal := answerByte accelBwField.mask s

/-- ENC.ABW v (R108). -/
def execEncAbw (v : AccelBw) (s : State) : Host.Outcome State Fault Refusal :=
  answerByte (encodeField accelBwField v) s

/-- DEC.ABW x (R109). -/
def execDecAbw (x : Byte) (s : State) : Host.Outcome State Fault Refusal := answerDecode accelBwField x s

/-- FREQ.ABW v (R110). -/
def execFreqAbw (v : AccelBw) (s : State) : Host.Outcome State Fault Refusal := answerF32 (accelBwHz params v) s

/-- DFLT.ABW (R111). -/
def execDfltAbw (s : State) : Host.Outcome State Fault Refusal := answerDefault accelBwField.toVariantSet s

/-- MASK.GBW (R112). -/
def execMaskGbw (s : State) : Host.Outcome State Fault Refusal := answerByte gyroBwField.mask s

/-- ENC.GBW v (R113). -/
def execEncGbw (v : GyroBw) (s : State) : Host.Outcome State Fault Refusal :=
  answerByte (encodeField gyroBwField v) s

/-- DEC.GBW x (R114). -/
def execDecGbw (x : Byte) (s : State) : Host.Outcome State Fault Refusal := answerDecode gyroBwField x s

/-- FREQ.GBW v (R115). -/
def execFreqGbw (v : GyroBw) (s : State) : Host.Outcome State Fault Refusal := answerF32 (gyroBwHz params v) s

/-- DFLT.GBW (R116). -/
def execDfltGbw (s : State) : Host.Outcome State Fault Refusal := answerDefault gyroBwField.toVariantSet s

end Sys2Proof.Machine
end

