-- ==== Sys2Proof/Machine/Odr.lean ====
section
/-! DEFINITION. The instructions on AccelOdr and GyroOdr (spec 44_odr R96 to R106). -/

namespace Sys2Proof.Machine

/-- The frequency of an AccelOdr variant in Hz, the column `1600 / 2^(disc - 5)` of R51 and 44_odr (R99). -/
def accelOdrConstant : AccelOdr → Decimal
  | .hz1600 => { digits := 1600, places := 0 }
  | .hz800 => { digits := 800, places := 0 }
  | .hz400 => { digits := 400, places := 0 }
  | .hz200 => { digits := 200, places := 0 }
  | .hz100 => { digits := 100, places := 0 }
  | .hz50 => { digits := 50, places := 0 }
  | .hz25 => { digits := 25, places := 0 }
  | .hz12_5 => { digits := 125, places := 1 }
  | .hz6_25 => { digits := 625, places := 2 }
  | .hz3_125 => { digits := 3125, places := 3 }
  | .hz1_5625 => { digits := 15625, places := 4 }

/-- The frequency of a GyroOdr variant in Hz, the same column for the eight codes the set has (R52, R104). -/
def gyroOdrConstant : GyroOdr → Decimal
  | .hz1600 => { digits := 1600, places := 0 }
  | .hz800 => { digits := 800, places := 0 }
  | .hz400 => { digits := 400, places := 0 }
  | .hz200 => { digits := 200, places := 0 }
  | .hz100 => { digits := 100, places := 0 }
  | .hz50 => { digits := 50, places := 0 }
  | .hz25 => { digits := 25, places := 0 }
  | .hz12_5 => { digits := 125, places := 1 }

/-- `as_f32(v)` of an AccelOdr variant, in Hz (R73, R99). -/
def accelOdrHz (v : AccelOdr) : F32 := f32OfDecimal (accelOdrConstant v)

/-- `as_f32(v)` of a GyroOdr variant, in Hz (R73, R104). -/
def gyroOdrHz (v : GyroOdr) : F32 := f32OfDecimal (gyroOdrConstant v)

/-- MASK.AODR (R96). -/
def execMaskAodr (s : State) : Host.Outcome State Fault Refusal := answerByte accelOdrField.mask s

/-- ENC.AODR v (R97). -/
def execEncAodr (v : AccelOdr) (s : State) : Host.Outcome State Fault Refusal :=
  answerByte (encodeField accelOdrField v) s

/-- DEC.AODR x (R98). -/
def execDecAodr (x : Byte) (s : State) : Host.Outcome State Fault Refusal := answerDecode accelOdrField x s

/-- FREQ.AODR v (R99). -/
def execFreqAodr (v : AccelOdr) (s : State) : Host.Outcome State Fault Refusal := answerF32 (accelOdrHz v) s

/-- DFLT.AODR (R100). -/
def execDfltAodr (s : State) : Host.Outcome State Fault Refusal := answerDefault accelOdrField.toVariantSet s

/-- MASK.GODR (R101). -/
def execMaskGodr (s : State) : Host.Outcome State Fault Refusal := answerByte gyroOdrField.mask s

/-- ENC.GODR v (R102). -/
def execEncGodr (v : GyroOdr) (s : State) : Host.Outcome State Fault Refusal :=
  answerByte (encodeField gyroOdrField v) s

/-- DEC.GODR x (R103). -/
def execDecGodr (x : Byte) (s : State) : Host.Outcome State Fault Refusal := answerDecode gyroOdrField x s

/-- FREQ.GODR v (R104). -/
def execFreqGodr (v : GyroOdr) (s : State) : Host.Outcome State Fault Refusal := answerF32 (gyroOdrHz v) s

/-- DFLT.GODR (R105). -/
def execDfltGodr (s : State) : Host.Outcome State Fault Refusal := answerDefault gyroOdrField.toVariantSet s

end Sys2Proof.Machine
end

