-- ==== Sys2Proof/Machine/PowerMode.lean ====
section
/-! DEFINITION. The instructions on PowerMode (spec 43_power_mode R90 to R95), and the sub-state columns of
the field's layout (30_encoding R43, R50). The sub-states are a reading of the layout only: PowerMode is
encoded and decoded as one 5-bit value (R94). -/

namespace Sys2Proof.Machine

/-- `A1:A0`, the accelerometer sub-state, bits 1:0 of a PowerMode value (R43). -/
def accelSubCode (x : Byte) : BitVec 2 := x.extractLsb' 0 2

/-- `G1:G0`, the gyroscope sub-state, bits 3:2 of a PowerMode value (R43). -/
def gyroSubCode (x : Byte) : BitVec 2 := x.extractLsb' 2 2

/-- `P4`, bit 4 of a PowerMode value, which only Idle sets (R43, R50). -/
def idleBit (x : Byte) : Bool := x.getLsbD 4

/-- The meaning R50 reads off the names for an accelerometer sub-state; code 01 has none (N7). -/
def accelSubState (c : BitVec 2) : Option AccelSubState :=
  match c.toNat with
  | 0 => some .off
  | 2 => some .lowPower
  | 3 => some .lowNoise
  | _ => none

/-- The meaning R50 reads off the names for a gyroscope sub-state; code 10 has none (N7). -/
def gyroSubState (c : BitVec 2) : Option GyroSubState :=
  match c.toNat with
  | 0 => some .off
  | 1 => some .standby
  | 3 => some .lowNoise
  | _ => none

/-- MASK.PWR (R90). -/
def execMaskPwr (s : State) : Host.Outcome State Fault Refusal := answerByte powerModeField.mask s

/-- ENC.PWR v (R91). -/
def execEncPwr (v : PowerMode) (s : State) : Host.Outcome State Fault Refusal :=
  answerByte (encodeField powerModeField v) s

/-- DEC.PWR x (R92). -/
def execDecPwr (x : Byte) (s : State) : Host.Outcome State Fault Refusal := answerDecode powerModeField x s

/-- DFLT.PWR (R93). -/
def execDfltPwr (s : State) : Host.Outcome State Fault Refusal := answerDefault powerModeField.toVariantSet s

end Sys2Proof.Machine
end

