-- ==== Sys2Proof/Machine/Range.lean ====
section
/-! DEFINITION. The instructions on AccelRange and GyroRange (spec 42_range R80 to R89). -/

namespace Sys2Proof.Machine

/-- `scale_factor(v)` in counts per g, as the decimal constant of R83 under the parameters `c`. -/
def accelScaleConstant (c : Config) : AccelRange → Decimal
  | .g16 => { digits := 2048, places := 0 }
  | .g8 => c.accelScaleG8
  | .g4 => c.accelScaleG4
  | .g2 => c.accelScaleG2

/-- `scale_factor(v)` in counts per deg/s, as the decimal constant of R88 under the parameters `c`. -/
def gyroScaleConstant (c : Config) : GyroRange → Decimal
  | .deg2000 => c.gyroScaleDeg2000
  | .deg1000 => c.gyroScaleDeg1000
  | .deg500 => c.gyroScaleDeg500
  | .deg250 => { digits := 131, places := 0 }

/-- The accelerometer sensitivity as an `f32` (R73, R83). -/
def accelScale (c : Config) (v : AccelRange) : F32 := f32OfDecimal (accelScaleConstant c v)

/-- The gyroscope sensitivity as an `f32` (R73, R88). -/
def gyroScale (c : Config) (v : GyroRange) : F32 := f32OfDecimal (gyroScaleConstant c v)

/-- MASK.ARANGE (R80). -/
def execMaskArange (s : State) : Host.Outcome State Fault Refusal := answerByte accelRangeField.mask s

/-- ENC.ARANGE v (R81). -/
def execEncArange (v : AccelRange) (s : State) : Host.Outcome State Fault Refusal :=
  answerByte (encodeField accelRangeField v) s

/-- DEC.ARANGE x (R82). -/
def execDecArange (x : Byte) (s : State) : Host.Outcome State Fault Refusal := answerDecode accelRangeField x s

/-- SCALE.ARANGE v (R83). -/
def execScaleArange (v : AccelRange) (s : State) : Host.Outcome State Fault Refusal :=
  answerF32 (accelScale params v) s

/-- DFLT.ARANGE (R84). -/
def execDfltArange (s : State) : Host.Outcome State Fault Refusal := answerDefault accelRangeField.toVariantSet s

/-- MASK.GRANGE (R85). -/
def execMaskGrange (s : State) : Host.Outcome State Fault Refusal := answerByte gyroRangeField.mask s

/-- ENC.GRANGE v (R86). -/
def execEncGrange (v : GyroRange) (s : State) : Host.Outcome State Fault Refusal :=
  answerByte (encodeField gyroRangeField v) s

/-- DEC.GRANGE x (R87). -/
def execDecGrange (x : Byte) (s : State) : Host.Outcome State Fault Refusal := answerDecode gyroRangeField x s

/-- SCALE.GRANGE v (R88). -/
def execScaleGrange (v : GyroRange) (s : State) : Host.Outcome State Fault Refusal :=
  answerF32 (gyroScale params v) s

/-- DFLT.GRANGE (R89). -/
def execDfltGrange (s : State) : Host.Outcome State Fault Refusal := answerDefault gyroRangeField.toVariantSet s

end Sys2Proof.Machine
end

