-- ==== Sys2Proof/Machine/Dispatch.lean ====
section
/-! DEFINITION. One arm per constructor of Instr, in the order of spec/opcode_table.json. -/

namespace Sys2Proof.Machine

/-- The meaning of each instruction; a word that decodes to none is answered by `step`. -/
def exec (i : Instr) (s : State) : Host.Outcome State Fault Refusal :=
  match i with
  | .maskArange => Sys2Proof.Machine.execMaskArange s
  | .maskGrange => Sys2Proof.Machine.execMaskGrange s
  | .maskPwr => Sys2Proof.Machine.execMaskPwr s
  | .maskAodr => Sys2Proof.Machine.execMaskAodr s
  | .maskGodr => Sys2Proof.Machine.execMaskGodr s
  | .maskAbw => Sys2Proof.Machine.execMaskAbw s
  | .maskGbw => Sys2Proof.Machine.execMaskGbw s
  | .encArange v => Sys2Proof.Machine.execEncArange v s
  | .encGrange v => Sys2Proof.Machine.execEncGrange v s
  | .encPwr v => Sys2Proof.Machine.execEncPwr v s
  | .encAodr v => Sys2Proof.Machine.execEncAodr v s
  | .encGodr v => Sys2Proof.Machine.execEncGodr v s
  | .encAbw v => Sys2Proof.Machine.execEncAbw v s
  | .encGbw v => Sys2Proof.Machine.execEncGbw v s
  | .decArange x => Sys2Proof.Machine.execDecArange x s
  | .decGrange x => Sys2Proof.Machine.execDecGrange x s
  | .decPwr x => Sys2Proof.Machine.execDecPwr x s
  | .decAodr x => Sys2Proof.Machine.execDecAodr x s
  | .decGodr x => Sys2Proof.Machine.execDecGodr x s
  | .decAbw x => Sys2Proof.Machine.execDecAbw x s
  | .decGbw x => Sys2Proof.Machine.execDecGbw x s
  | .scaleArange v => Sys2Proof.Machine.execScaleArange v s
  | .scaleGrange v => Sys2Proof.Machine.execScaleGrange v s
  | .freqAodr v => Sys2Proof.Machine.execFreqAodr v s
  | .freqGodr v => Sys2Proof.Machine.execFreqGodr v s
  | .freqAbw v => Sys2Proof.Machine.execFreqAbw v s
  | .freqGbw v => Sys2Proof.Machine.execFreqGbw v s
  | .dfltAddr => Sys2Proof.Machine.execDfltAddr s
  | .dfltArange => Sys2Proof.Machine.execDfltArange s
  | .dfltGrange => Sys2Proof.Machine.execDfltGrange s
  | .dfltPwr => Sys2Proof.Machine.execDfltPwr s
  | .dfltAodr => Sys2Proof.Machine.execDfltAodr s
  | .dfltGodr => Sys2Proof.Machine.execDfltGodr s
  | .dfltAbw => Sys2Proof.Machine.execDfltAbw s
  | .dfltGbw => Sys2Proof.Machine.execDfltGbw s
  | .addrAddr v => Sys2Proof.Machine.execAddrAddr v s

end Sys2Proof.Machine
end

