-- ==== Sys2Proof/Machine/Block.lean ====
section
/-! DEFINITION. The block: RESP as a function of CMD (spec 10_state R25; 30_encoding R61). -/

namespace Sys2Proof.Machine

/-- The block with the word `w` on CMD: it decodes the word and answers with the instruction's meaning, or with
ILLEGAL_COMMAND before any decode of a field is attempted (R61; 60_exceptions R121, R125). -/
def evaluate (w : CmdWord) (s : State) : Host.Outcome State Fault Refusal :=
  match decode w with
  | .instr i => exec i (s.drive w)
  | .illegal _ => raise .illegalCommand (s.drive w)

end Sys2Proof.Machine
end

