-- ==== Sys2Proof/Machine/Step.lean ====
section
/-! DEFINITION. One step of the machine: the block is presented one command and answers it, one atomic step
with no latency (spec 20_memory R41; 70_reset_and_hazards R145, R146). -/

namespace Sys2Proof.Machine

/-- Takes the callers' next request to the block (notes/assumptions/1.md). -/
def step (s : State) : Host.Outcome State Fault Refusal := evaluate (nextWord s) (takeRequest s)

/-- `s` with a table word waiting before every other request, so that the next step presents exactly it.
The block fetches nothing (R15): a program is what the callers request, and this stands for a request
(notes/assumptions/1.md). Commands are 16 bits (R64), so `nbits` is 16 and does not enter. -/
def State.withFetchWord (s : State) (_nbits w : Nat) : State :=
  { s with pending := BitVec.ofNat 16 w :: s.pending }

end Sys2Proof.Machine
end

