-- ==== Sys2Proof/Machine/Assembler.lean ====
section
/-! DEFINITION. The assembler form of a command, `<OP>.<SET>` and at most one operand (spec 30_encoding R65;
the literals of 00_scope R8). Text is a list of characters. The pseudo-instructions INS and EXT, whose `r` is
the caller's, are Machine/Caller.lean's. -/

namespace Sys2Proof.Machine

/-- The OP part of a mnemonic (R56). -/
def opName : Op → String
  | .mask => "MASK"
  | .enc => "ENC"
  | .dec => "DEC"
  | .scale => "SCALE"
  | .freq => "FREQ"
  | .dflt => "DFLT"
  | .addr => "ADDR"

/-- The SET part of a mnemonic (R57). -/
def setName : SetId → String
  | .addr => "ADDR"
  | .arange => "ARANGE"
  | .grange => "GRANGE"
  | .pwr => "PWR"
  | .aodr => "AODR"
  | .godr => "GODR"
  | .abw => "ABW"
  | .gbw => "GBW"

/-- The variant names of a set, each with the identifier it stands for (R47 to R54). -/
def variantNames : SetId → List (String × Byte)
  | .addr => [("Primary", 0x68), ("Secondary", 0x69)]
  | .arange => [("G16", 0), ("G8", 1), ("G4", 2), ("G2", 3)]
  | .grange => [("Deg2000", 0), ("Deg1000", 1), ("Deg500", 2), ("Deg250", 3)]
  | .pwr => [("Sleep", 0b00000), ("Standby", 0b00100), ("AccelLowPower", 0b00010), ("AccelLowNoise", 0b00011),
      ("GyroLowNoise", 0b01100), ("SixAxisLowNoise", 0b01111), ("Idle", 0b10000)]
  | .aodr => [("Hz1600", 5), ("Hz800", 6), ("Hz400", 7), ("Hz200", 8), ("Hz100", 9), ("Hz50", 10), ("Hz25", 11),
      ("Hz12_5", 12), ("Hz6_25", 13), ("Hz3_125", 14), ("Hz1_5625", 15)]
  | .godr => [("Hz1600", 5), ("Hz800", 6), ("Hz400", 7), ("Hz200", 8), ("Hz100", 9), ("Hz50", 10), ("Hz25", 11),
      ("Hz12_5", 12)]
  | .abw => [("Hz10000", 0), ("Hz180", 1), ("Hz121", 2), ("Hz73", 3), ("Hz53", 4), ("Hz34", 5), ("Hz25", 6),
      ("Hz16", 7)]
  | .gbw => [("Hz10000", 0), ("Hz180", 1), ("Hz121", 2), ("Hz73", 3), ("Hz53", 4), ("Hz34", 5), ("Hz25", 6),
      ("Hz16", 7)]

/-- The mnemonic `<OP>.<SET>` (R65). -/
def mnemonic (op : Op) (set : SetId) : List Char := (opName op).toList ++ '.' :: (setName set).toList

/-- Every pair of an OP and a SET name. -/
def allPairs : List (Op × SetId) :=
  [Op.mask, .enc, .dec, .scale, .freq, .dflt, .addr].flatMap fun op =>
    [SetId.addr, .arange, .grange, .pwr, .aodr, .godr, .abw, .gbw].map fun set => (op, set)

/-- The pair a mnemonic names, letters of either case (R65). -/
def pairOfMnemonic (text : List Char) : Option (Op × SetId) :=
  allPairs.find? fun p => mnemonic p.1 p.2 == text.map Char.toUpper

/-- The words of a line: its longest runs of characters other than the space. -/
def splitWords (run : List Char) : List Char → List (List Char)
  | [] => if run.isEmpty then [] else [run]
  | c :: cs =>
    if c == ' ' then
      if run.isEmpty then splitWords [] cs else run :: splitWords [] cs
    else splitWords (run ++ [c]) cs

/-- The value of a digit of base up to 16. -/
def digitValue (c : Char) : Option Nat :=
  if '0' ≤ c ∧ c ≤ '9' then some (c.toNat - '0'.toNat)
  else if 'a' ≤ c ∧ c ≤ 'f' then some (c.toNat - 'a'.toNat + 10)
  else if 'A' ≤ c ∧ c ≤ 'F' then some (c.toNat - 'A'.toNat + 10)
  else none

/-- Digits of a base, at least one, `_` a separator with no value (R8). -/
def parseDigits (base : Nat) : List Char → Nat → Bool → Option Nat
  | [], value, seen => if seen then some value else none
  | c :: cs, value, seen =>
    if c == '_' then parseDigits base cs value seen
    else
      match digitValue c with
      | some d => if d < base then parseDigits base cs (value * base + d) true else none
      | none => none

/-- A literal: `0b…` binary, `0x…` hexadecimal, else decimal (R8). -/
def parseNumber : List Char → Option Nat
  | '0' :: 'b' :: cs => parseDigits 2 cs 0 false
  | '0' :: 'x' :: cs => parseDigits 16 cs 0 false
  | cs => parseDigits 10 cs 0 false

/-- A literal that fits the OPERAND byte. -/
def parseByte (text : List Char) : Option Byte :=
  match parseNumber text with
  | some n => if n < 256 then some (BitVec.ofNat 8 n) else none
  | none => none

/-- A variant operand: a variant name of the set, or a number, which names the variant with that discriminant
(R65) and makes the word illegal where there is none (R61). -/
def parseVariant (set : SetId) (text : List Char) : Option Byte :=
  match (variantNames set).find? fun p => p.1.toList == text with
  | some p => some p.2
  | none => parseByte text

/-- The OPERAND byte of a line: 0x00 for MASK and DFLT, which take no operand; a number for DEC; a variant
for the rest (R65). -/
def parseOperand (op : Op) (set : SetId) (operands : List (List Char)) : Option Byte :=
  match op, operands with
  | .mask, [] => some 0x00
  | .dflt, [] => some 0x00
  | .dec, [text] => parseByte text
  | .enc, [text] => parseVariant set text
  | .scale, [text] => parseVariant set text
  | .freq, [text] => parseVariant set text
  | .addr, [text] => parseVariant set text
  | _, _ => none

/-- The command word a line of assembler text writes, legal or not: `MASK.ADDR` and `FREQ.GODR 13` write words
that the block answers with ILLEGAL_COMMAND (R65; 95_test_vectors P3, P6). -/
def assembleWord (line : List Char) : Option CmdWord :=
  match splitWords [] line with
  | [] => none
  | m :: operands =>
    match pairOfMnemonic m with
    | none => none
    | some (op, set) =>
      match parseOperand op set operands with
      | none => none
      | some operand => some (cmdWord op set operand)

/-- The instruction a line of assembler text stands for, if its word is legal (R65). -/
def assemble (line : List Char) : Option Instr :=
  match assembleWord line with
  | none => none
  | some w =>
    match decode w with
    | .instr i => some i
    | .illegal _ => none

/-- The hexadecimal digit of a value below 16. -/
def hexDigit (n : Nat) : Char := "0123456789ABCDEF".toList.getD n '0'

/-- A byte as a hexadecimal literal. -/
def printByte (b : Byte) : List Char := ['0', 'x', hexDigit (b.toNat / 16), hexDigit (b.toNat % 16)]

/-- The operand of an instruction as text, the space before it included: none, a number for DEC, a variant
name for the rest. -/
def printOperand (op : Op) (set : SetId) (operand : Byte) : List Char :=
  match op with
  | .mask => []
  | .dflt => []
  | .dec => ' ' :: printByte operand
  | _ =>
    match (variantNames set).find? fun p => p.2 == operand with
    | some p => ' ' :: p.1.toList
    | none => ' ' :: printByte operand

/-- The assembler text of an instruction (R65). -/
def printInstr (i : Instr) : List Char := mnemonic i.op i.setId ++ printOperand i.op i.setId i.operand

end Sys2Proof.Machine
end

