-- ==== Sys2Proof/Machine/Caller.lean ====
section
/-! DEFINITION. The caller's side: reading a response, and the two named caller sequences INS and EXT (spec
30_encoding R66; 70_reset_and_hazards R141 to R144). The block takes no part in the caller's arithmetic, and
the caller's byte `r` is no state of the block. The bus that fetches and stores `r` is out of scope (R5). -/

namespace Sys2Proof.Machine

/-- What reading RESP tells a caller: a success with its data, or one of the two failures (R23, R119).
STATUS 3 is never produced by a conforming block: reading it is a fault (R27, 93 item I6). -/
def observe (r : Response) : Host.Outcome (Result Data) Fault Refusal :=
  match r.status.toNat with
  | 0 => .next (.ok r.data)
  | 1 => .next (.fail .invalidDiscriminant)
  | 2 => .next (.fail .illegalCommand)
  | _ => .fault .reservedStatus

/-- One command of a caller: give it to the block, read the response. It is given to the block as reset leaves
it; any other state gives the same result (20_memory R39, R41). -/
def command (w : CmdWord) : Host.Outcome (Result Data) Fault Refusal :=
  match evaluate w State.reset with
  | .next s => observe s.resp
  | .fault r => .fault r
  | .refused r => .refused r

/-- A caller sequence goes on with the data of a success and ends with a failure (the model's choice,
notes/assumptions/8.md). -/
def andThen {V : Type} (o : Host.Outcome (Result Data) Fault Refusal)
    (k : Data → Host.Outcome (Result V) Fault Refusal) : Host.Outcome (Result V) Fault Refusal :=
  match o with
  | .next (.ok d) => k d
  | .next (.fail f) => .next (.fail f)
  | .fault r => .fault r
  | .refused r => .refused r

/-- INS.<SET> r, v: the caller places the variant with identifier `v` into its register byte `r`, the old
field cleared first: `(r & ~m) | e` (R66, R144). -/
def insField (f : RegSet) (r v : Byte) : Host.Outcome (Result Byte) Fault Refusal :=
  andThen (command (cmdWord .mask (regSetId f) 0x00)) fun m =>
    andThen (command (cmdWord .enc (regSetId f) v)) fun e =>
      .next (.ok ((r &&& ~~~ lowByte m) ||| lowByte e))

/-- EXT.<SET> r: the caller recovers the variant from its register byte `r`: mask, shift by the mask's
trailing zeros, decode; the response to the decode is the result (R66). -/
def extField (f : RegSet) (r : Byte) : Host.Outcome (Result Data) Fault Refusal :=
  andThen (command (cmdWord .mask (regSetId f) 0x00)) fun m =>
    command (cmdWord .dec (regSetId f) ((r &&& lowByte m) >>> trailingZeros (lowByte m)))

end Sys2Proof.Machine
end

