-- ==== Sys2Proof/Safety.lean ====
section
/-! DEFINITION. The terms in which statements speak of a run: what a response may look like, what it means
that the block answers a command, and that RESP belongs to CMD. -/

namespace Sys2Proof.Machine

/-- A response a conforming block may give: STATUS is not 3, and DATA is 0 unless STATUS is 0 (10_state R26,
R27). -/
def Response.conforming (r : Response) : Bool := r.status != 3 && (r.status == 0 || r.data == 0)

/-- The block answers the command word `w` with `status` and `data`, in every state: with `w` on CMD it completes,
RESP takes the response, and nothing else changes (10_state R25; 20_memory R39). -/
def Answers (w : CmdWord) (status : StatusCode) (data : Data) : Prop :=
  ∀ s : State, evaluate w s = .next { s with cmd := w, resp := { status := status, data := data } }

/-- RESP is the response to the word on CMD: with no request waiting, evaluating the block again changes
nothing. R25 gives the relation; the stored RESP and the step with no request waiting are the model's
(notes/assumptions/3.md, 1.md). -/
def Settled (s : State) : Prop := step { s with pending := [] } = .next { s with pending := [] }

/-- The response the block gives `w` when `w` is issued alone, right after reset. -/
def ResponseAlone (w : CmdWord) (r : Response) : Prop :=
  ∃ s : State, step (State.reset.request w) = .next s ∧ s.resp = r

end Sys2Proof.Machine
end

