-- ==== Sys2Proof/WellFormed.lean ====
section
/-! DEFINITION. Which commands are legal, as the tables of spec 30_encoding R57 to R59 and R63 list them,
on the raw fields of a command word. It is written from those tables with numbers only, apart from the
decoder (Decode.lean), so that their agreement is a statement and not a definition. Every `Instr` is
well formed by its type: its command passes these checks. -/

namespace Sys2Proof

/-- Check 1: the (OP, SET) pair is marked in the table of R59. One row of the table per line. -/
def Command.pairLegal (c : Command) : Bool :=
  match c.op.toNat with
  | 0 => decide (1 ≤ c.set.toNat ∧ c.set.toNat ≤ 7)
  | 1 => decide (1 ≤ c.set.toNat ∧ c.set.toNat ≤ 7)
  | 2 => decide (1 ≤ c.set.toNat ∧ c.set.toNat ≤ 7)
  | 3 => decide (1 ≤ c.set.toNat ∧ c.set.toNat ≤ 2)
  | 4 => decide (4 ≤ c.set.toNat ∧ c.set.toNat ≤ 7)
  | 5 => decide (c.set.toNat ≤ 7)
  | 6 => decide (c.set.toNat = 0)
  | _ => false

/-- The variant identifiers of the set with the given id (R57, R58, R63; R47 for Address). -/
def legalIdentifiers (set : Nat) : List Nat :=
  match set with
  | 0 => [0x68, 0x69]
  | 1 => [0, 1, 2, 3]
  | 2 => [0, 1, 2, 3]
  | 3 => [0, 2, 3, 4, 12, 15, 16]
  | 4 => [5, 6, 7, 8, 9, 10, 11, 12, 13, 14, 15]
  | 5 => [5, 6, 7, 8, 9, 10, 11, 12]
  | 6 => [0, 1, 2, 3, 4, 5, 6, 7]
  | 7 => [0, 1, 2, 3, 4, 5, 6, 7]
  | _ => []

/-- Check 2: MASK and DFLT have OPERAND 0x00 (R58, format CMD16-N). -/
def Command.unusedOperandZero (c : Command) : Bool :=
  match c.op.toNat with
  | 0 => decide (c.operand.toNat = 0)
  | 5 => decide (c.operand.toNat = 0)
  | _ => true

/-- Check 3: ENC, SCALE, FREQ and ADDR name a variant of the set (R58, format CMD16-V). -/
def Command.variantOperandLegal (c : Command) : Bool :=
  match c.op.toNat with
  | 1 => (legalIdentifiers c.set.toNat).contains c.operand.toNat
  | 3 => (legalIdentifiers c.set.toNat).contains c.operand.toNat
  | 4 => (legalIdentifiers c.set.toNat).contains c.operand.toNat
  | 6 => (legalIdentifiers c.set.toNat).contains c.operand.toNat
  | _ => true

/-- A legal command: all three checks of R61 pass. A DEC command is never refused for its operand. -/
def Command.wellFormed (c : Command) : Bool :=
  c.pairLegal && c.unusedOperandZero && c.variantOperandLegal

end Sys2Proof
end

