-- ==== Sys2Proof/Certificates/Slice0/Obligations.lean ====
section
/-! DEFINITION. The statements for the provers. A word-level clause `Answers w status data` says that the
block, with `w` on CMD in any state, completes with that RESP and nothing else changed. The command codes are
the spec's own (92_eei_decisions D2). `0x11 ++ x` is the word `0x1100 | x`. -/

open Sys2Proof Sys2Proof.Machine

/-! ### Encoding -/

/-- Decoding the word of an instruction gives the instruction, for every instruction and every operand. -/
def Obligations.DecodeOfEncodeIsTheInstruction : Prop :=
  ∀ i : Instr, decode (encode i) = .instr i

/-- A word that decodes to an instruction is the word of that instruction: no legal command has two words,
and the decoder ignores no bit. -/
def Obligations.DecodedWordIsTheEncodedWord : Prop :=
  ∀ (w : CmdWord) (i : Instr), decode w = .instr i → encode i = w

/-- The decoder accepts a word exactly when its fields pass the tables of R58, R59 and R63. -/
def Obligations.DecoderAcceptsExactlyTheLegalCommands : Prop :=
  ∀ w : CmdWord, (∃ i : Instr, decode w = .instr i) ↔ (Command.ofWord w).wellFormed = true

/-- A refused word is refused by the name of the first check it fails. The names are the model's choice
(notes/assumptions/10.md): R61 raises one IllegalCommand and names nothing, and its first check, on the (OP, SET)
pair, is split here into three names; its second and third have one each. -/
def Obligations.DecoderNamesTheFirstFailedCheck : Prop :=
  ∀ w : CmdWord,
    let c := Command.ofWord w
    (7 ≤ c.op.toNat → decode w = .illegal .reservedOp) ∧
    (c.op.toNat < 7 → 8 ≤ c.set.toNat → decode w = .illegal .reservedSet) ∧
    (c.op.toNat < 7 → c.set.toNat < 8 → c.pairLegal = false → decode w = .illegal .blankPair) ∧
    (c.pairLegal = true → c.unusedOperandZero = false → decode w = .illegal .operandNotZero) ∧
    (c.pairLegal = true → c.variantOperandLegal = false → decode w = .illegal .operandNotVariant)

/-- Words written out from the formats of R55 to R58 decode to the instructions they stand for, one per
operation: OP, SET and OPERAND in turn. -/
def Obligations.WordsOfEveryOperationDecode : Prop :=
  decode 0b0000_0001_00000000 = .instr .maskArange ∧
  decode 0b0001_0011_00001111 = .instr (.encPwr .sixAxisLowNoise) ∧
  decode 0b0010_0101_11111111 = .instr (.decGodr 0xFF) ∧
  decode 0b0011_0010_00000011 = .instr (.scaleGrange .deg250) ∧
  decode 0b0100_0100_00001111 = .instr (.freqAodr .hz1_5625) ∧
  decode 0b0101_0111_00000000 = .instr .dfltGbw ∧
  decode 0b0110_0000_01101001 = .instr (.addrAddr .secondary)

/-- The assembler text of every instruction assembles to that instruction: the forms of R65, with the lexical
detail the model chose (notes/assumptions/7.md). -/
def Obligations.PrintedTextAssemblesToTheInstruction : Prop :=
  ∀ i : Instr, assemble (printInstr i) = some i

/-! ### The contracts of every register-field set -/

/-- R21, for all eight sets. -/
def Obligations.DiscriminantsAreDistinctWithinASet : Prop :=
  (∀ u v : Address, u.disc = v.disc → u = v) ∧
  (∀ u v : AccelRange, u.disc = v.disc → u = v) ∧
  (∀ u v : GyroRange, u.disc = v.disc → u = v) ∧
  (∀ u v : PowerMode, u.disc = v.disc → u = v) ∧
  (∀ u v : AccelOdr, u.disc = v.disc → u = v) ∧
  (∀ u v : GyroOdr, u.disc = v.disc → u = v) ∧
  (∀ u v : AccelBw, u.disc = v.disc → u = v) ∧
  (∀ u v : GyroBw, u.disc = v.disc → u = v)

/-- R69: a decode returns the one variant whose discriminant is its input, and fails with
InvalidDiscriminant exactly when there is none. -/
def Obligations.DecodeReturnsTheVariantWithThatDiscriminant : Prop :=
  (∀ x, (∀ v, decodeField accelRangeField x = .ok v ↔ v.disc = x) ∧
    (decodeField accelRangeField x = .fail .invalidDiscriminant ↔ ∀ v : AccelRange, v.disc ≠ x)) ∧
  (∀ x, (∀ v, decodeField gyroRangeField x = .ok v ↔ v.disc = x) ∧
    (decodeField gyroRangeField x = .fail .invalidDiscriminant ↔ ∀ v : GyroRange, v.disc ≠ x)) ∧
  (∀ x, (∀ v, decodeField powerModeField x = .ok v ↔ v.disc = x) ∧
    (decodeField powerModeField x = .fail .invalidDiscriminant ↔ ∀ v : PowerMode, v.disc ≠ x)) ∧
  (∀ x, (∀ v, decodeField accelOdrField x = .ok v ↔ v.disc = x) ∧
    (decodeField accelOdrField x = .fail .invalidDiscriminant ↔ ∀ v : AccelOdr, v.disc ≠ x)) ∧
  (∀ x, (∀ v, decodeField gyroOdrField x = .ok v ↔ v.disc = x) ∧
    (decodeField gyroOdrField x = .fail .invalidDiscriminant ↔ ∀ v : GyroOdr, v.disc ≠ x)) ∧
  (∀ x, (∀ v, decodeField accelBwField x = .ok v ↔ v.disc = x) ∧
    (decodeField accelBwField x = .fail .invalidDiscriminant ↔ ∀ v : AccelBw, v.disc ≠ x)) ∧
  (∀ x, (∀ v, decodeField gyroBwField x = .ok v ↔ v.disc = x) ∧
    (decodeField gyroBwField x = .fail .invalidDiscriminant ↔ ∀ v : GyroBw, v.disc ≠ x))

/-- R68, which the spec derives from its tables: an encode result has no bit outside its field's mask, and
inside the mask it is the shifted discriminant. -/
def Obligations.EncodeStaysInsideItsMask : Prop :=
  (∀ v, encodeField accelRangeField v &&& ~~~ accelRangeField.mask = 0 ∧
    encodeField accelRangeField v &&& accelRangeField.mask = v.disc <<< accelRangeField.shift) ∧
  (∀ v, encodeField gyroRangeField v &&& ~~~ gyroRangeField.mask = 0 ∧
    encodeField gyroRangeField v &&& gyroRangeField.mask = v.disc <<< gyroRangeField.shift) ∧
  (∀ v, encodeField powerModeField v &&& ~~~ powerModeField.mask = 0 ∧
    encodeField powerModeField v &&& powerModeField.mask = v.disc <<< powerModeField.shift) ∧
  (∀ v, encodeField accelOdrField v &&& ~~~ accelOdrField.mask = 0 ∧
    encodeField accelOdrField v &&& accelOdrField.mask = v.disc <<< accelOdrField.shift) ∧
  (∀ v, encodeField gyroOdrField v &&& ~~~ gyroOdrField.mask = 0 ∧
    encodeField gyroOdrField v &&& gyroOdrField.mask = v.disc <<< gyroOdrField.shift) ∧
  (∀ v, encodeField accelBwField v &&& ~~~ accelBwField.mask = 0 ∧
    encodeField accelBwField v &&& accelBwField.mask = v.disc <<< accelBwField.shift) ∧
  (∀ v, encodeField gyroBwField v &&& ~~~ gyroBwField.mask = 0 ∧
    encodeField gyroBwField v &&& gyroBwField.mask = v.disc <<< gyroBwField.shift)

/-- R72, which the spec derives: `decode((encode(v) & MASK) >> SHIFT) == Ok(v)` for every variant of every
register-field set. -/
def Obligations.DecodeOfEncodedFieldIsTheVariant : Prop :=
  (∀ v, decodeField accelRangeField (prepareField .arange (encodeField accelRangeField v)) = .ok v) ∧
  (∀ v, decodeField gyroRangeField (prepareField .grange (encodeField gyroRangeField v)) = .ok v) ∧
  (∀ v, decodeField powerModeField (prepareField .pwr (encodeField powerModeField v)) = .ok v) ∧
  (∀ v, decodeField accelOdrField (prepareField .aodr (encodeField accelOdrField v)) = .ok v) ∧
  (∀ v, decodeField gyroOdrField (prepareField .godr (encodeField gyroOdrField v)) = .ok v) ∧
  (∀ v, decodeField accelBwField (prepareField .abw (encodeField accelBwField v)) = .ok v) ∧
  (∀ v, decodeField gyroBwField (prepareField .gbw (encodeField gyroBwField v)) = .ok v)

/-- The descriptors of R17 with what R10 and R18 say of them: each mask is one run of ones that starts at
the shift, and the set ids. -/
def Obligations.DescriptorsAreContiguousMasks : Prop :=
  (regMask .arange = 0x60 ∧ regShift .arange = 5 ∧ (regSetId .arange).code = 1) ∧
  (regMask .grange = 0x60 ∧ regShift .grange = 5 ∧ (regSetId .grange).code = 2) ∧
  (regMask .pwr = 0x1F ∧ regShift .pwr = 0 ∧ (regSetId .pwr).code = 3) ∧
  (regMask .aodr = 0x0F ∧ regShift .aodr = 0 ∧ (regSetId .aodr).code = 4) ∧
  (regMask .godr = 0x0F ∧ regShift .godr = 0 ∧ (regSetId .godr).code = 5) ∧
  (regMask .abw = 0x07 ∧ regShift .abw = 0 ∧ (regSetId .abw).code = 6) ∧
  (regMask .gbw = 0x07 ∧ regShift .gbw = 0 ∧ (regSetId .gbw).code = 7) ∧
  ∀ f : RegSet, trailingZeros (regMask f) = regShift f ∧
    ∃ width : Nat, (regMask f).toNat = (2 ^ width - 1) * 2 ^ regShift f

/-- R44, which the spec derives from R17: which masks are disjoint. -/
def Obligations.MaskDisjointnessTable : Prop :=
  (disjoint .arange .pwr ∧ disjoint .grange .pwr) ∧
  (disjoint .arange .aodr ∧ disjoint .arange .godr ∧ disjoint .grange .aodr ∧ disjoint .grange .godr) ∧
  (disjoint .arange .abw ∧ disjoint .arange .gbw ∧ disjoint .grange .abw ∧ disjoint .grange .gbw) ∧
  (regMask .pwr &&& regMask .aodr = 0x0F ∧ regMask .pwr &&& regMask .godr = 0x0F) ∧
  (regMask .pwr &&& regMask .abw = 0x07 ∧ regMask .pwr &&& regMask .gbw = 0x07) ∧
  (regMask .aodr &&& regMask .abw = 0x07 ∧ regMask .aodr &&& regMask .gbw = 0x07 ∧
    regMask .godr &&& regMask .abw = 0x07 ∧ regMask .godr &&& regMask .gbw = 0x07)

/-- R63: the legal and the reserved values of every field, and that a decode answers its input for a legal
value and InvalidDiscriminant for every other byte, those wider than the field among them. -/
def Obligations.ReservedPatternsFailToDecode : Prop :=
  (legalValues .arange = [0, 1, 2, 3] ∧ reservedValues .arange = []) ∧
  (legalValues .grange = [0, 1, 2, 3] ∧ reservedValues .grange = []) ∧
  (legalValues .pwr = [0, 2, 3, 4, 12, 15, 16] ∧
    reservedValues .pwr = [1, 5, 6, 7, 8, 9, 10, 11, 13, 14, 17, 18, 19, 20, 21, 22, 23, 24, 25, 26, 27, 28, 29, 30, 31] ∧
    (reservedValues .pwr).length = 25) ∧
  (legalValues .aodr = [5, 6, 7, 8, 9, 10, 11, 12, 13, 14, 15] ∧ reservedValues .aodr = [0, 1, 2, 3, 4]) ∧
  (legalValues .godr = [5, 6, 7, 8, 9, 10, 11, 12] ∧ reservedValues .godr = [0, 1, 2, 3, 4, 13, 14, 15]) ∧
  (legalValues .abw = [0, 1, 2, 3, 4, 5, 6, 7] ∧ reservedValues .abw = []) ∧
  (legalValues .gbw = [0, 1, 2, 3, 4, 5, 6, 7] ∧ reservedValues .gbw = []) ∧
  ∀ (f : RegSet) (x : Byte),
    (x ∈ legalValues f → Answers (cmdWord .dec (regSetId f) x) 0 (zext32 x)) ∧
    (x ∉ legalValues f → Answers (cmdWord .dec (regSetId f) x) 1 0)

/-- R70 (decision D7): no decode masks or shifts its input, so every input above `MASK_S >> SHIFT_S` fails,
an unshifted range field among them. -/
def Obligations.DecodeRejectsInputsWiderThanTheField : Prop :=
  (∀ (f : RegSet) (x : Byte), (regMask f >>> regShift f).toNat < x.toNat →
    Answers (cmdWord .dec (regSetId f) x) 1 0) ∧
  decodeField accelRangeField 0x40 = .fail .invalidDiscriminant ∧
  decodeField gyroRangeField 0x60 = .fail .invalidDiscriminant

/-! ### The instructions -/

/-- R80, R85, R90, R96, R101, R107, R112: MASK answers the set's mask; a nonzero OPERAND is
ILLEGAL_COMMAND. -/
def Obligations.MaskAnswersTheFieldMask : Prop :=
  (∀ s : State,
    exec .maskArange s = .next { s with resp := { status := 0, data := 0x00000060 } } ∧
    exec .maskGrange s = .next { s with resp := { status := 0, data := 0x00000060 } } ∧
    exec .maskPwr s = .next { s with resp := { status := 0, data := 0x0000001F } } ∧
    exec .maskAodr s = .next { s with resp := { status := 0, data := 0x0000000F } } ∧
    exec .maskGodr s = .next { s with resp := { status := 0, data := 0x0000000F } } ∧
    exec .maskAbw s = .next { s with resp := { status := 0, data := 0x00000007 } } ∧
    exec .maskGbw s = .next { s with resp := { status := 0, data := 0x00000007 } }) ∧
  Answers 0x0100 0 0x00000060 ∧ Answers 0x0200 0 0x00000060 ∧ Answers 0x0300 0 0x0000001F ∧
  Answers 0x0400 0 0x0000000F ∧ Answers 0x0500 0 0x0000000F ∧ Answers 0x0600 0 0x00000007 ∧
  Answers 0x0700 0 0x00000007 ∧
  ∀ x : Byte, x ≠ 0 →
    Answers (0x01#8 ++ x) 2 0 ∧ Answers (0x02#8 ++ x) 2 0 ∧ Answers (0x03#8 ++ x) 2 0 ∧
    Answers (0x04#8 ++ x) 2 0 ∧ Answers (0x05#8 ++ x) 2 0 ∧ Answers (0x06#8 ++ x) 2 0 ∧
    Answers (0x07#8 ++ x) 2 0

/-- R81, R86: ENC.ARANGE and ENC.GRANGE answer the discriminant shifted to bits 6:5; an OPERAND outside 0..3
is ILLEGAL_COMMAND. -/
def Obligations.EncodeOfRangesAnswersBits6To5 : Prop :=
  (∀ s : State,
    exec (.encArange .g16) s = .next { s with resp := { status := 0, data := 0x00 } } ∧
    exec (.encArange .g8) s = .next { s with resp := { status := 0, data := 0x20 } } ∧
    exec (.encArange .g4) s = .next { s with resp := { status := 0, data := 0x40 } } ∧
    exec (.encArange .g2) s = .next { s with resp := { status := 0, data := 0x60 } } ∧
    exec (.encGrange .deg2000) s = .next { s with resp := { status := 0, data := 0x00 } } ∧
    exec (.encGrange .deg1000) s = .next { s with resp := { status := 0, data := 0x20 } } ∧
    exec (.encGrange .deg500) s = .next { s with resp := { status := 0, data := 0x40 } } ∧
    exec (.encGrange .deg250) s = .next { s with resp := { status := 0, data := 0x60 } }) ∧
  ∀ x : Byte,
    (x.toNat ≤ 3 → Answers (0x11#8 ++ x) 0 (zext32 (x <<< 5)) ∧ Answers (0x12#8 ++ x) 0 (zext32 (x <<< 5))) ∧
    (3 < x.toNat → Answers (0x11#8 ++ x) 2 0 ∧ Answers (0x12#8 ++ x) 2 0)

/-- R91: ENC.PWR. -/
def Obligations.EncodeOfPowerModeAnswersItsFiveBits : Prop :=
  (∀ s : State,
    exec (.encPwr .sleep) s = .next { s with resp := { status := 0, data := 0x00 } } ∧
    exec (.encPwr .standby) s = .next { s with resp := { status := 0, data := 0x04 } } ∧
    exec (.encPwr .accelLowPower) s = .next { s with resp := { status := 0, data := 0x02 } } ∧
    exec (.encPwr .accelLowNoise) s = .next { s with resp := { status := 0, data := 0x03 } } ∧
    exec (.encPwr .gyroLowNoise) s = .next { s with resp := { status := 0, data := 0x0C } } ∧
    exec (.encPwr .sixAxisLowNoise) s = .next { s with resp := { status := 0, data := 0x0F } } ∧
    exec (.encPwr .idle) s = .next { s with resp := { status := 0, data := 0x10 } }) ∧
  ∀ x : Byte,
    (x ∈ [0, 2, 3, 4, 12, 15, 16] → Answers (0x13#8 ++ x) 0 (zext32 x)) ∧
    (x ∉ [0, 2, 3, 4, 12, 15, 16] → Answers (0x13#8 ++ x) 2 0)

/-- R97, R102: ENC.AODR and ENC.GODR; the gyroscope has no codes 13, 14, 15. -/
def Obligations.EncodeOfOdrsAnswersTheCode : Prop :=
  (∀ s : State,
    exec (.encAodr .hz1600) s = .next { s with resp := { status := 0, data := 0x05 } } ∧
    exec (.encAodr .hz800) s = .next { s with resp := { status := 0, data := 0x06 } } ∧
    exec (.encAodr .hz400) s = .next { s with resp := { status := 0, data := 0x07 } } ∧
    exec (.encAodr .hz200) s = .next { s with resp := { status := 0, data := 0x08 } } ∧
    exec (.encAodr .hz100) s = .next { s with resp := { status := 0, data := 0x09 } } ∧
    exec (.encAodr .hz50) s = .next { s with resp := { status := 0, data := 0x0A } } ∧
    exec (.encAodr .hz25) s = .next { s with resp := { status := 0, data := 0x0B } } ∧
    exec (.encAodr .hz12_5) s = .next { s with resp := { status := 0, data := 0x0C } } ∧
    exec (.encAodr .hz6_25) s = .next { s with resp := { status := 0, data := 0x0D } } ∧
    exec (.encAodr .hz3_125) s = .next { s with resp := { status := 0, data := 0x0E } } ∧
    exec (.encAodr .hz1_5625) s = .next { s with resp := { status := 0, data := 0x0F } } ∧
    exec (.encGodr .hz1600) s = .next { s with resp := { status := 0, data := 0x05 } } ∧
    exec (.encGodr .hz800) s = .next { s with resp := { status := 0, data := 0x06 } } ∧
    exec (.encGodr .hz400) s = .next { s with resp := { status := 0, data := 0x07 } } ∧
    exec (.encGodr .hz200) s = .next { s with resp := { status := 0, data := 0x08 } } ∧
    exec (.encGodr .hz100) s = .next { s with resp := { status := 0, data := 0x09 } } ∧
    exec (.encGodr .hz50) s = .next { s with resp := { status := 0, data := 0x0A } } ∧
    exec (.encGodr .hz25) s = .next { s with resp := { status := 0, data := 0x0B } } ∧
    exec (.encGodr .hz12_5) s = .next { s with resp := { status := 0, data := 0x0C } }) ∧
  ∀ x : Byte,
    (5 ≤ x.toNat ∧ x.toNat ≤ 15 → Answers (0x14#8 ++ x) 0 (zext32 x)) ∧
    (x.toNat < 5 ∨ 15 < x.toNat → Answers (0x14#8 ++ x) 2 0) ∧
    (5 ≤ x.toNat ∧ x.toNat ≤ 12 → Answers (0x15#8 ++ x) 0 (zext32 x)) ∧
    (x.toNat < 5 ∨ 12 < x.toNat → Answers (0x15#8 ++ x) 2 0)

/-- The encodings of the bandwidth sets (R108, R113); which frequency codes 1 to 6 name is decision D9
(notes/assumptions/5.md). -/
def Obligations.EncodeOfBandwidthsAnswersTheCode : Prop :=
  (∀ s : State,
    exec (.encAbw .hz10000) s = .next { s with resp := { status := 0, data := 0x00 } } ∧
    exec (.encAbw .hz180) s = .next { s with resp := { status := 0, data := 0x01 } } ∧
    exec (.encAbw .hz121) s = .next { s with resp := { status := 0, data := 0x02 } } ∧
    exec (.encAbw .hz73) s = .next { s with resp := { status := 0, data := 0x03 } } ∧
    exec (.encAbw .hz53) s = .next { s with resp := { status := 0, data := 0x04 } } ∧
    exec (.encAbw .hz34) s = .next { s with resp := { status := 0, data := 0x05 } } ∧
    exec (.encAbw .hz25) s = .next { s with resp := { status := 0, data := 0x06 } } ∧
    exec (.encAbw .hz16) s = .next { s with resp := { status := 0, data := 0x07 } } ∧
    exec (.encGbw .hz10000) s = .next { s with resp := { status := 0, data := 0x00 } } ∧
    exec (.encGbw .hz180) s = .next { s with resp := { status := 0, data := 0x01 } } ∧
    exec (.encGbw .hz121) s = .next { s with resp := { status := 0, data := 0x02 } } ∧
    exec (.encGbw .hz73) s = .next { s with resp := { status := 0, data := 0x03 } } ∧
    exec (.encGbw .hz53) s = .next { s with resp := { status := 0, data := 0x04 } } ∧
    exec (.encGbw .hz34) s = .next { s with resp := { status := 0, data := 0x05 } } ∧
    exec (.encGbw .hz25) s = .next { s with resp := { status := 0, data := 0x06 } } ∧
    exec (.encGbw .hz16) s = .next { s with resp := { status := 0, data := 0x07 } }) ∧
  ∀ x : Byte,
    (x.toNat ≤ 7 → Answers (0x16#8 ++ x) 0 (zext32 x) ∧ Answers (0x17#8 ++ x) 0 (zext32 x)) ∧
    (7 < x.toNat → Answers (0x16#8 ++ x) 2 0 ∧ Answers (0x17#8 ++ x) 2 0)

/-- R82, R87: DEC.ARANGE and DEC.GRANGE, the variant each input names and the response. -/
def Obligations.DecodeOfRanges : Prop :=
  (decodeField accelRangeField 0 = .ok .g16 ∧ decodeField accelRangeField 1 = .ok .g8 ∧
    decodeField accelRangeField 2 = .ok .g4 ∧ decodeField accelRangeField 3 = .ok .g2) ∧
  (decodeField gyroRangeField 0 = .ok .deg2000 ∧ decodeField gyroRangeField 1 = .ok .deg1000 ∧
    decodeField gyroRangeField 2 = .ok .deg500 ∧ decodeField gyroRangeField 3 = .ok .deg250) ∧
  (∀ (x : Byte) (s : State), x.toNat ≤ 3 →
    exec (.decArange x) s = .next { s with resp := { status := 0, data := zext32 x } } ∧
    exec (.decGrange x) s = .next { s with resp := { status := 0, data := zext32 x } }) ∧
  (∀ (x : Byte) (s : State), 3 < x.toNat →
    decodeField accelRangeField x = .fail .invalidDiscriminant ∧
    decodeField gyroRangeField x = .fail .invalidDiscriminant ∧
    exec (.decArange x) s = .next { s with resp := { status := 1, data := 0 } } ∧
    exec (.decGrange x) s = .next { s with resp := { status := 1, data := 0 } }) ∧
  ∀ x : Byte, decode (0x21#8 ++ x) = .instr (.decArange x) ∧ decode (0x22#8 ++ x) = .instr (.decGrange x)

/-- R92: DEC.PWR, the variant each input names and the response; no reserved value is coerced to a mode. -/
def Obligations.DecodeOfPowerMode : Prop :=
  (decodeField powerModeField 0b00000 = .ok .sleep ∧ decodeField powerModeField 0b00100 = .ok .standby ∧
    decodeField powerModeField 0b00010 = .ok .accelLowPower ∧
    decodeField powerModeField 0b00011 = .ok .accelLowNoise ∧
    decodeField powerModeField 0b01100 = .ok .gyroLowNoise ∧
    decodeField powerModeField 0b01111 = .ok .sixAxisLowNoise ∧
    decodeField powerModeField 0b10000 = .ok .idle) ∧
  (∀ (x : Byte) (s : State), x ∈ [0, 2, 3, 4, 12, 15, 16] →
    exec (.decPwr x) s = .next { s with resp := { status := 0, data := zext32 x } }) ∧
  (∀ (x : Byte) (s : State), x ∉ [0, 2, 3, 4, 12, 15, 16] →
    decodeField powerModeField x = .fail .invalidDiscriminant ∧
    exec (.decPwr x) s = .next { s with resp := { status := 1, data := 0 } }) ∧
  ∀ x : Byte, decode (0x23#8 ++ x) = .instr (.decPwr x)

/-- R98, R103: DEC.AODR and DEC.GODR, the variant each input names and the response. -/
def Obligations.DecodeOfOdrs : Prop :=
  (decodeField accelOdrField 5 = .ok .hz1600 ∧ decodeField accelOdrField 6 = .ok .hz800 ∧
    decodeField accelOdrField 7 = .ok .hz400 ∧ decodeField accelOdrField 8 = .ok .hz200 ∧
    decodeField accelOdrField 9 = .ok .hz100 ∧ decodeField accelOdrField 10 = .ok .hz50 ∧
    decodeField accelOdrField 11 = .ok .hz25 ∧ decodeField accelOdrField 12 = .ok .hz12_5 ∧
    decodeField accelOdrField 13 = .ok .hz6_25 ∧ decodeField accelOdrField 14 = .ok .hz3_125 ∧
    decodeField accelOdrField 15 = .ok .hz1_5625) ∧
  (decodeField gyroOdrField 5 = .ok .hz1600 ∧ decodeField gyroOdrField 6 = .ok .hz800 ∧
    decodeField gyroOdrField 7 = .ok .hz400 ∧ decodeField gyroOdrField 8 = .ok .hz200 ∧
    decodeField gyroOdrField 9 = .ok .hz100 ∧ decodeField gyroOdrField 10 = .ok .hz50 ∧
    decodeField gyroOdrField 11 = .ok .hz25 ∧ decodeField gyroOdrField 12 = .ok .hz12_5) ∧
  (∀ (x : Byte) (s : State),
    (5 ≤ x.toNat ∧ x.toNat ≤ 15 →
      exec (.decAodr x) s = .next { s with resp := { status := 0, data := zext32 x } }) ∧
    (x.toNat < 5 ∨ 15 < x.toNat → decodeField accelOdrField x = .fail .invalidDiscriminant ∧
      exec (.decAodr x) s = .next { s with resp := { status := 1, data := 0 } }) ∧
    (5 ≤ x.toNat ∧ x.toNat ≤ 12 →
      exec (.decGodr x) s = .next { s with resp := { status := 0, data := zext32 x } }) ∧
    (x.toNat < 5 ∨ 12 < x.toNat → decodeField gyroOdrField x = .fail .invalidDiscriminant ∧
      exec (.decGodr x) s = .next { s with resp := { status := 1, data := 0 } })) ∧
  ∀ x : Byte, decode (0x24#8 ++ x) = .instr (.decAodr x) ∧ decode (0x25#8 ++ x) = .instr (.decGodr x)

/-- The decodes of the bandwidth sets (R109, R114): every 3-bit code decodes, every wider input fails (D7);
which frequency codes 1 to 6 name is decision D9 (notes/assumptions/5.md). -/
def Obligations.DecodeOfBandwidths : Prop :=
  (decodeField accelBwField 0 = .ok .hz10000 ∧ decodeField accelBwField 1 = .ok .hz180 ∧
    decodeField accelBwField 2 = .ok .hz121 ∧ decodeField accelBwField 3 = .ok .hz73 ∧
    decodeField accelBwField 4 = .ok .hz53 ∧ decodeField accelBwField 5 = .ok .hz34 ∧
    decodeField accelBwField 6 = .ok .hz25 ∧ decodeField accelBwField 7 = .ok .hz16) ∧
  (decodeField gyroBwField 0 = .ok .hz10000 ∧ decodeField gyroBwField 1 = .ok .hz180 ∧
    decodeField gyroBwField 2 = .ok .hz121 ∧ decodeField gyroBwField 3 = .ok .hz73 ∧
    decodeField gyroBwField 4 = .ok .hz53 ∧ decodeField gyroBwField 5 = .ok .hz34 ∧
    decodeField gyroBwField 6 = .ok .hz25 ∧ decodeField gyroBwField 7 = .ok .hz16) ∧
  (∀ (x : Byte) (s : State), x.toNat ≤ 7 →
    exec (.decAbw x) s = .next { s with resp := { status := 0, data := zext32 x } } ∧
    exec (.decGbw x) s = .next { s with resp := { status := 0, data := zext32 x } }) ∧
  (∀ (x : Byte) (s : State), 7 < x.toNat →
    exec (.decAbw x) s = .next { s with resp := { status := 1, data := 0 } } ∧
    exec (.decGbw x) s = .next { s with resp := { status := 1, data := 0 } }) ∧
  ∀ x : Byte, decode (0x26#8 ++ x) = .instr (.decAbw x) ∧ decode (0x27#8 ++ x) = .instr (.decGbw x)

/-- SCALE (R83, R88): the binary32 pattern of every sensitivity. Six of the eight constants are decision D8
and the patterns are the spec's general knowledge G1 (notes/assumptions/4.md, 6.md). -/
def Obligations.ScaleAnswersTheSensitivity : Prop :=
  (∀ s : State,
    exec (.scaleArange .g16) s = .next { s with resp := { status := 0, data := 0x45000000 } } ∧
    exec (.scaleArange .g8) s = .next { s with resp := { status := 0, data := 0x45800000 } } ∧
    exec (.scaleArange .g4) s = .next { s with resp := { status := 0, data := 0x46000000 } } ∧
    exec (.scaleArange .g2) s = .next { s with resp := { status := 0, data := 0x46800000 } } ∧
    exec (.scaleGrange .deg2000) s = .next { s with resp := { status := 0, data := 0x41833333 } } ∧
    exec (.scaleGrange .deg1000) s = .next { s with resp := { status := 0, data := 0x42033333 } } ∧
    exec (.scaleGrange .deg500) s = .next { s with resp := { status := 0, data := 0x42830000 } } ∧
    exec (.scaleGrange .deg250) s = .next { s with resp := { status := 0, data := 0x43030000 } }) ∧
  ∀ x : Byte, 3 < x.toNat → Answers (0x31#8 ++ x) 2 0 ∧ Answers (0x32#8 ++ x) 2 0

/-- The source's own numeric constants hold whatever the parameters D8 and D9 are: 2048.0, 131.0, 10000.0
and 16.0. Their patterns are the spec's general knowledge G1 (notes/assumptions/6.md). -/
def Obligations.SourceConstantsHoldForEveryConfig : Prop :=
  ∀ c : Config,
    accelScale c .g16 = 0x45000000 ∧ gyroScale c .deg250 = 0x43030000 ∧
    accelBwHz c .hz10000 = 0x461C4000 ∧ gyroBwHz c .hz10000 = 0x461C4000 ∧
    accelBwHz c .hz16 = 0x41800000 ∧ gyroBwHz c .hz16 = 0x41800000

/-- R99, R104: FREQ.AODR and FREQ.GODR answer `f32(1600.0 / 2^(disc - 5))`, and the value is exact: in units
of 2^-149, the pattern times 2^(disc - 5) is 1600. An OPERAND that is no code of the set is
ILLEGAL_COMMAND. -/
def Obligations.FrequencyOfOdrsIsExact : Prop :=
  (∀ (v : AccelOdr) (s : State), ∃ p : F32,
    exec (.freqAodr v) s = .next { s with resp := { status := 0, data := p } } ∧
    p = f32OfRatio 1600 (2 ^ (v.disc.toNat - 5)) ∧
    f32Units p.toNat * 2 ^ (v.disc.toNat - 5) = 1600 * 2 ^ 149 ∧
    Answers (0x44#8 ++ v.disc) 0 p) ∧
  (∀ (v : GyroOdr) (s : State), ∃ p : F32,
    exec (.freqGodr v) s = .next { s with resp := { status := 0, data := p } } ∧
    p = f32OfRatio 1600 (2 ^ (v.disc.toNat - 5)) ∧
    f32Units p.toNat * 2 ^ (v.disc.toNat - 5) = 1600 * 2 ^ 149 ∧
    Answers (0x45#8 ++ v.disc) 0 p) ∧
  Answers 0x440F 0 0x3FC80000 ∧ Answers 0x4506 0 0x44480000 ∧
  ∀ x : Byte,
    (x.toNat < 5 ∨ 15 < x.toNat → Answers (0x44#8 ++ x) 2 0) ∧
    (x.toNat < 5 ∨ 12 < x.toNat → Answers (0x45#8 ++ x) 2 0)

/-- FREQ of the bandwidth sets (R110, R115): codes 1 to 6 are decision D9 and the patterns the spec's general
knowledge G1 (notes/assumptions/5.md, 6.md). -/
def Obligations.FrequencyOfBandwidths : Prop :=
  (∀ s : State,
    exec (.freqAbw .hz10000) s = .next { s with resp := { status := 0, data := 0x461C4000 } } ∧
    exec (.freqAbw .hz180) s = .next { s with resp := { status := 0, data := 0x43340000 } } ∧
    exec (.freqAbw .hz121) s = .next { s with resp := { status := 0, data := 0x42F20000 } } ∧
    exec (.freqAbw .hz73) s = .next { s with resp := { status := 0, data := 0x42920000 } } ∧
    exec (.freqAbw .hz53) s = .next { s with resp := { status := 0, data := 0x42540000 } } ∧
    exec (.freqAbw .hz34) s = .next { s with resp := { status := 0, data := 0x42080000 } } ∧
    exec (.freqAbw .hz25) s = .next { s with resp := { status := 0, data := 0x41C80000 } } ∧
    exec (.freqAbw .hz16) s = .next { s with resp := { status := 0, data := 0x41800000 } } ∧
    exec (.freqGbw .hz10000) s = .next { s with resp := { status := 0, data := 0x461C4000 } } ∧
    exec (.freqGbw .hz180) s = .next { s with resp := { status := 0, data := 0x43340000 } } ∧
    exec (.freqGbw .hz121) s = .next { s with resp := { status := 0, data := 0x42F20000 } } ∧
    exec (.freqGbw .hz73) s = .next { s with resp := { status := 0, data := 0x42920000 } } ∧
    exec (.freqGbw .hz53) s = .next { s with resp := { status := 0, data := 0x42540000 } } ∧
    exec (.freqGbw .hz34) s = .next { s with resp := { status := 0, data := 0x42080000 } } ∧
    exec (.freqGbw .hz25) s = .next { s with resp := { status := 0, data := 0x41C80000 } } ∧
    exec (.freqGbw .hz16) s = .next { s with resp := { status := 0, data := 0x41800000 } }) ∧
  ∀ x : Byte, 7 < x.toNat → Answers (0x46#8 ++ x) 2 0 ∧ Answers (0x47#8 ++ x) 2 0

/-- R117: the value reported for the bypass code is the constant 10000.0 whatever the parameters, and is read
as no cutoff; every other code is read as the frequency it reports. -/
def Obligations.BypassCodeIsASentinel : Prop :=
  ∀ c : Config,
    f32Units (accelBwHz c .hz10000).toNat = 10000 * 2 ^ 149 ∧ accelBwCutoff c .hz10000 = none ∧
    f32Units (gyroBwHz c .hz10000).toNat = 10000 * 2 ^ 149 ∧ gyroBwCutoff c .hz10000 = none ∧
    (∀ v, v ≠ .hz10000 → accelBwCutoff c v = some (accelBwHz c v)) ∧
    (∀ v, v ≠ .hz10000 → gyroBwCutoff c v = some (gyroBwHz c v))

/-- R84, R89, R93, R100, R105: DFLT answers the identifier of the default variant; a nonzero OPERAND is
ILLEGAL_COMMAND. -/
def Obligations.DefaultAnswersTheResetVariant : Prop :=
  (defaultVariant accelRangeField.toVariantSet = .g16 ∧ defaultVariant gyroRangeField.toVariantSet = .deg2000 ∧
    defaultVariant powerModeField.toVariantSet = .sleep ∧ defaultVariant accelOdrField.toVariantSet = .hz800 ∧
    defaultVariant gyroOdrField.toVariantSet = .hz800) ∧
  (∀ s : State,
    exec .dfltArange s = .next { s with resp := { status := 0, data := 0x00000000 } } ∧
    exec .dfltGrange s = .next { s with resp := { status := 0, data := 0x00000000 } } ∧
    exec .dfltPwr s = .next { s with resp := { status := 0, data := 0x00000000 } } ∧
    exec .dfltAodr s = .next { s with resp := { status := 0, data := 0x00000006 } } ∧
    exec .dfltGodr s = .next { s with resp := { status := 0, data := 0x00000006 } }) ∧
  Answers 0x5100 0 0 ∧ Answers 0x5200 0 0 ∧ Answers 0x5300 0 0 ∧ Answers 0x5400 0 6 ∧ Answers 0x5500 0 6 ∧
  ∀ x : Byte, x ≠ 0 →
    Answers (0x51#8 ++ x) 2 0 ∧ Answers (0x52#8 ++ x) 2 0 ∧ Answers (0x53#8 ++ x) 2 0 ∧
    Answers (0x54#8 ++ x) 2 0 ∧ Answers (0x55#8 ++ x) 2 0

/-- DFLT of Address and of the bandwidth sets (R78, R111, R116): the default Primary is decision D11, and
that the default 180 Hz is code 1 is decision D9 (notes/assumptions/5.md). -/
def Obligations.DefaultOfAddressAndBandwidths : Prop :=
  (∀ s : State,
    exec .dfltAddr s = .next { s with resp := { status := 0, data := 0x00000068 } } ∧
    exec .dfltAbw s = .next { s with resp := { status := 0, data := 0x00000001 } } ∧
    exec .dfltGbw s = .next { s with resp := { status := 0, data := 0x00000001 } }) ∧
  Answers 0x5000 0 0x68 ∧ Answers 0x5600 0 1 ∧ Answers 0x5700 0 1 ∧
  ∀ x : Byte, x ≠ 0 → Answers (0x50#8 ++ x) 2 0 ∧ Answers (0x56#8 ++ x) 2 0 ∧ Answers (0x57#8 ++ x) 2 0

/-- The encode result of every register-field set's default, the column of R137; the bandwidth rows rest on
decision D9 (notes/assumptions/5.md). -/
def Obligations.DefaultsEncodeToTheResetField : Prop :=
  encodeField accelRangeField accelRangeField.dflt = 0x00 ∧ encodeField gyroRangeField gyroRangeField.dflt = 0x00 ∧
  encodeField powerModeField powerModeField.dflt = 0x00 ∧ encodeField accelOdrField accelOdrField.dflt = 0x06 ∧
  encodeField gyroOdrField gyroOdrField.dflt = 0x06 ∧ encodeField accelBwField accelBwField.dflt = 0x01 ∧
  encodeField gyroBwField gyroBwField.dflt = 0x01

/-- R77: ADDR.ADDR answers the bus address itself; any other OPERAND is ILLEGAL_COMMAND. -/
def Obligations.AddressAnswersTheBusAddress : Prop :=
  (∀ s : State,
    exec (.addrAddr .primary) s = .next { s with resp := { status := 0, data := 0x00000068 } } ∧
    exec (.addrAddr .secondary) s = .next { s with resp := { status := 0, data := 0x00000069 } }) ∧
  Answers 0x6068 0 0x00000068 ∧ Answers 0x6069 0 0x00000069 ∧
  ∀ x : Byte, x ≠ 0x68 → x ≠ 0x69 → Answers (0x60#8 ++ x) 2 0

/-- R79 (decision D21): Address has no mask, encode, decode, scale or frequency, whatever the OPERAND. -/
def Obligations.AddressHasNoFieldOperations : Prop :=
  ∀ x : Byte,
    Answers (0x00#8 ++ x) 2 0 ∧ Answers (0x10#8 ++ x) 2 0 ∧ Answers (0x20#8 ++ x) 2 0 ∧
    Answers (0x30#8 ++ x) 2 0 ∧ Answers (0x40#8 ++ x) 2 0

/-- R62 and R121 (decision D5): a word is answered ILLEGAL_COMMAND with DATA 0 exactly when its fields fail the
tables of R58, R59 and R63. -/
def Obligations.ExactlyIllegalWordsAnswerIllegalCommand : Prop :=
  ∀ w : CmdWord,
    ((Command.ofWord w).wellFormed = false → Answers w 2 0) ∧
    ((Command.ofWord w).wellFormed = true → ∀ s s' : State,
      evaluate w s = .next s' → s'.resp.status ≠ 2)

/-- R122: no operation but a decode ever fails: it answers STATUS 0 in every state, for every operand. -/
def Obligations.OnlyDecodesFail : Prop :=
  ∀ (i : Instr) (s : State), i.op ≠ .dec →
    ∃ d : Data, exec i s = .next { s with resp := { status := 0, data := d } }

/-- R39: an operation has no side effect and gives the same result every time: one response serves every
state, and RESP is all that changes. -/
def Obligations.OperationsHaveNoSideEffect : Prop :=
  ∀ i : Instr, ∃ r : Response, ∀ s : State, exec i s = .next { s with resp := r }

/-- What R50 reads off the names, and its legality constraint, with R94: in a legal mode both sub-states have a
meaning and a gyroscope in low noise never stands beside an accelerometer in low power; that combination,
whose halves are both meaningful, decodes to no mode. The sub-state functions are the model's reading of R50
(notes/assumptions/12.md). -/
def Obligations.PowerModeIsNotAProductOfSubStates : Prop :=
  (∀ v : PowerMode,
    (accelSubState (accelSubCode v.disc)).isSome = true ∧ (gyroSubState (gyroSubCode v.disc)).isSome = true ∧
    (gyroSubState (gyroSubCode v.disc) = some .lowNoise → accelSubState (accelSubCode v.disc) ≠ some .lowPower) ∧
    (idleBit v.disc = true ↔ v = .idle)) ∧
  accelSubState (accelSubCode 0b01110) = some .lowPower ∧ gyroSubState (gyroSubCode 0b01110) = some .lowNoise ∧
  decodeField powerModeField 0b01110 = .fail .invalidDiscriminant

/-- The gyroscope asymmetry of R106: three members fewer; codes 13, 14 and 15 decode for the accelerometer and
fail for the gyroscope; their frequencies are lower than that of every other accelerometer code; a code both sets
have means the same frequency in both. Frequencies are compared as the binary32 values they are answered as
(the spec's general knowledge G1; notes/assumptions/6.md), in units of 2^-149. -/
def Obligations.GyroOdrLacksTheThreeLowestRates : Prop :=
  accelOdrField.variants.length = 11 ∧ gyroOdrField.variants.length = 8 ∧
  (∀ x : Byte, 13 ≤ x.toNat → x.toNat ≤ 15 →
    (∃ v, decodeField accelOdrField x = .ok v) ∧ decodeField gyroOdrField x = .fail .invalidDiscriminant) ∧
  (∀ v u : AccelOdr, 13 ≤ v.disc.toNat → u.disc.toNat < 13 →
    f32Units (accelOdrHz v).toNat < f32Units (accelOdrHz u).toNat) ∧
  ∀ v : GyroOdr, ∃ u : AccelOdr, decodeField accelOdrField v.disc = .ok u ∧ accelOdrHz u = gyroOdrHz v

/-! ### The primitive f32 -/

/-- The primitive `f32` of R9 (the spec's general knowledge G1; notes/assumptions/6.md): of all finite binary32
patterns `p`, the computed one is nearest to `n / d`, and where another is as near, the computed one is even.
Distances are compared in units of 2^-149 / d. -/
def Obligations.F32IsNearestTiesToEven : Prop :=
  ∀ n d p : Nat, 0 < d → f32Pattern n d < 0x7F800000 → p < 0x7F800000 →
    ((f32Units (f32Pattern n d) * d : Int) - n * 2 ^ 149).natAbs ≤ ((f32Units p * d : Int) - n * 2 ^ 149).natAbs ∧
    (p ≠ f32Pattern n d →
      ((f32Units (f32Pattern n d) * d : Int) - n * 2 ^ 149).natAbs = ((f32Units p * d : Int) - n * 2 ^ 149).natAbs →
      f32Pattern n d % 2 = 0)

/-! ### The machine -/

/-- A step runs the instruction that the presented word decodes to: the next requested word goes to CMD and
leaves the requests, or, with none requested, the word on CMD is evaluated again (notes/assumptions/1.md). -/
def Obligations.StepRunsTheDecodedInstruction : Prop :=
  (∀ (s : State) (w : CmdWord) (rest : List CmdWord) (i : Instr), s.pending = w :: rest → decode w = .instr i →
    step s = exec i { s with cmd := w, pending := rest }) ∧
  (∀ (s : State) (i : Instr), s.pending = [] → decode s.cmd = .instr i → step s = exec i s)

/-- A step on a word that decodes to no instruction answers ILLEGAL_COMMAND with DATA 0 and changes nothing
else (R62, R121: decision D5; presented as notes/assumptions/1.md says). -/
def Obligations.StepAnswersIllegalCommand : Prop :=
  ∀ (s : State) (w : CmdWord) (rest : List CmdWord) (why : IllegalReason), s.pending = w :: rest →
    decode w = .illegal why →
    step s = .next { s with cmd := w, pending := rest, resp := { status := 2, data := 0 } }

/-- R136, which the spec derives: no command stops the machine; both failures are results. -/
def Obligations.EveryStepAnswersNext : Prop :=
  ∀ s : State, ∃ s' : State, step s = .next s'

/-- R26 and R27 (decision D4) as an invariant: every step leaves a response whose STATUS is not 3 and whose
DATA is 0 unless STATUS is 0. That RESP stands in the state is the model's choice (notes/assumptions/3.md). -/
def Obligations.StepKeepsTheResponseConforming : Prop :=
  ∀ s s' : State, s.resp.conforming = true → step s = .next s' → s'.resp.conforming = true

/-- The model's reading of R25 (decisions D2, D4) as an invariant: after every step, RESP is the response to the
word on CMD. `Settled` says it by the stored RESP and by the step taken with no request waiting; both are the
model's choice (notes/assumptions/1.md, 3.md), for the spec has neither. -/
def Obligations.StepKeepsTheResponseSettled : Prop :=
  ∀ s s' : State, Settled s → step s = .next s' → Settled s'

/-- Both invariants hold of the state after reset; CMD = 0x0000 there is the model's choice
(notes/assumptions/2.md). -/
def Obligations.ResetIsConformingAndSettled : Prop :=
  State.reset.resp.conforming = true ∧ Settled State.reset

/-- Reset leaves nothing requested, and CMD and RESP at the values of notes/assumptions/2.md; the first
command after reset is answered as in any other state (R29, R139, R140). -/
def Obligations.ResetHoldsNothing : Prop :=
  State.reset.pending = [] ∧ State.reset.cmd = 0 ∧ State.reset.resp = { status := 2, data := 0 } ∧
  ∀ (w : CmdWord) (s s' t' : State), step (State.reset.request w) = .next s' →
    step { s with pending := w :: s.pending } = .next t' → s'.resp = t'.resp

/-- R13: the response to a command depends on the command alone, not on an earlier command, an earlier
response or a waiting request. How a command is presented is the model's choice (notes/assumptions/1.md). -/
def Obligations.ResponseDependsOnTheCommandAlone : Prop :=
  ∀ s t : State, nextWord s = nextWord t →
    ∃ s' t' : State, step s = .next s' ∧ step t = .next t' ∧ s'.resp = t'.resp ∧ s'.cmd = t'.cmd

/-- R41 (decision D19): requests of any number of callers, interleaved in any order, are served in that order
and each gets the response it gets alone (the list of waiting requests: notes/assumptions/1.md). -/
def Obligations.EveryRequestIsAnsweredAsWhenAlone : Prop :=
  ∀ (s : State) (before : List CmdWord) (w : CmdWord) (after : List CmdWord),
    s.pending = before ++ w :: after →
    ∃ s' : State, Host.Core.run Sys2Proof.core (before.length + 1) s = .next s' ∧
      s'.cmd = w ∧ s'.pending = after ∧ ResponseAlone w s'.resp

/-! ### The caller's sequences -/

/-- R66 (decision D20): EXT is a decode of the register byte masked and shifted as R46 says. The byte is an
argument and the decode's failure is EXT's (notes/assumptions/8.md). -/
def Obligations.ExtDecodesThePreparedField : Prop :=
  ∀ (f : RegSet) (r : Byte),
    (prepareField f r ∈ regDiscs f → extField f r = .next (.ok (zext32 (prepareField f r)))) ∧
    (prepareField f r ∉ regDiscs f → extField f r = .next (.fail .invalidDiscriminant))

/-- R66 and R144 (decision D20): INS of a variant, then EXT of the same field, gives the variant back, and
every bit of the register byte outside the field is kept. The byte is an argument and a result
(notes/assumptions/8.md). -/
def Obligations.InsThenExtGivesTheVariantBack : Prop :=
  ∀ (f : RegSet) (r v : Byte), v ∈ regDiscs f →
    ∃ b : Byte, insField f r v = .next (.ok b) ∧ extField f b = .next (.ok (zext32 v)) ∧
      b &&& ~~~ regMask f = r &&& ~~~ regMask f

/-- R44 with R66 (the spec's inference and decision D20): INS of one field leaves every field with a disjoint
mask as it read before. The byte is an argument and a result (notes/assumptions/8.md). -/
def Obligations.InsKeepsDisjointFields : Prop :=
  ∀ (f g : RegSet) (r v : Byte), disjoint f g = true → v ∈ regDiscs f →
    ∃ b : Byte, insField f r v = .next (.ok b) ∧ extField g b = extField g r

/-- INS of an operand that names no variant ends with the failure of its ENC and gives no byte. R62 and decision D5
speak of the ENC command alone, which is ILLEGAL_COMMAND; that the sequence ends there is the model's choice
(notes/assumptions/8.md). -/
def Obligations.InsOfNoVariantFails : Prop :=
  ∀ (f : RegSet) (r v : Byte), v ∉ regDiscs f → insField f r v = .next (.fail .illegalCommand)
end

