-- ==== Sys2Proof/Laws/Decode.lean ====
section
/-! SUPPORT. The fields of a command word and the word of three fields are inverse; the codes of R56 and R57
are inverse to their readers; a variant's discriminant names it. -/

namespace Sys2Proof

@[simp] theorem command_ofWord_word (c : Command) : Command.ofWord c.word = c := by
  obtain ⟨op, set, operand⟩ := c
  simp only [Command.ofWord, Command.word, Machine.opField, Machine.setField, Machine.operandField,
    Command.mk.injEq]
  refine ⟨?_, ?_, ?_⟩
  all_goals
    apply BitVec.eq_of_toNat_eq
    simp only [BitVec.extractLsb'_toNat, BitVec.toNat_append, Nat.shiftRight_eq_div_pow]
    have h1 := op.isLt
    have h2 := set.isLt
    have h3 := operand.isLt
    rw [Nat.shiftLeft_eq, Nat.shiftLeft_eq, ← Nat.shiftLeft_eq, ← Nat.shiftLeft_eq,
      ← Nat.shiftLeft_add_eq_or_of_lt h2, ← Nat.shiftLeft_add_eq_or_of_lt h3]
    simp only [Nat.shiftLeft_eq]
    omega

@[simp] theorem command_word_ofWord (w : CmdWord) : (Command.ofWord w).word = w := by
  apply BitVec.eq_of_toNat_eq
  simp only [Command.ofWord, Command.word, Machine.opField, Machine.setField, Machine.operandField,
    BitVec.toNat_append]
  have h0 := w.isLt
  have h2 := (w.extractLsb' 8 4).isLt
  have h3 := (w.extractLsb' 0 8).isLt
  rw [← Nat.shiftLeft_add_eq_or_of_lt h2, ← Nat.shiftLeft_add_eq_or_of_lt h3]
  simp only [BitVec.extractLsb'_toNat, Nat.shiftRight_eq_div_pow, Nat.shiftLeft_eq]
  omega

@[simp] theorem op_ofCode_code (op : Op) : Op.ofCode op.code = some op := by cases op <;> rfl

@[simp] theorem setId_ofCode_code (set : SetId) : SetId.ofCode set.code = some set := by cases set <;> rfl

theorem op_code_of_ofCode {c : BitVec 4} {op : Op} (h : Op.ofCode c = some op) : op.code = c := by
  revert c; cases op <;> decide

theorem setId_code_of_ofCode {c : BitVec 4} {set : SetId} (h : SetId.ofCode c = some set) : set.code = c := by
  revert c; cases set <;> decide

/-- Decoding a word of known fields. -/
theorem decode_word (c : Command) : decode c.word = decodeCommand c := by simp [decode]

/-- Decoding a word of a known operation and set. -/
theorem decode_cmdWord (op : Op) (set : SetId) (operand : Byte) :
    decode (cmdWord op set operand) = decodePair op set operand := by
  simp [cmdWord, decode_word, decodeCommand]

/-- Decoding a word given by its high byte and its OPERAND byte. -/
theorem decode_append {high : Byte} {op : Op} {set : SetId} (h : (op.code ++ set.code : Byte) = high)
    (operand : Byte) : decode (high ++ operand) = decodePair op set operand := by
  subst h
  exact decode_cmdWord op set operand

end Sys2Proof
end

