-- ==== Sys2Proof/Laws/State.lean ====
section
/-! SUPPORT. One lemma per field of State and per update of it. -/

namespace Sys2Proof.Machine

@[simp] theorem respond_cmd (s : State) (r : Response) : (s.respond r).cmd = s.cmd := rfl
@[simp] theorem respond_pending (s : State) (r : Response) : (s.respond r).pending = s.pending := rfl
@[simp] theorem respond_resp (s : State) (r : Response) : (s.respond r).resp = r := rfl

@[simp] theorem request_cmd (s : State) (w : CmdWord) : (s.request w).cmd = s.cmd := rfl
@[simp] theorem request_pending (s : State) (w : CmdWord) : (s.request w).pending = s.pending ++ [w] := rfl
@[simp] theorem request_resp (s : State) (w : CmdWord) : (s.request w).resp = s.resp := rfl

@[simp] theorem takeRequest_cmd (s : State) : (takeRequest s).cmd = s.cmd := rfl
@[simp] theorem takeRequest_pending (s : State) : (takeRequest s).pending = s.pending.tail := rfl
@[simp] theorem takeRequest_resp (s : State) : (takeRequest s).resp = s.resp := rfl

@[simp] theorem drive_cmd (s : State) (w : CmdWord) : (s.drive w).cmd = w := rfl
@[simp] theorem drive_pending (s : State) (w : CmdWord) : (s.drive w).pending = s.pending := rfl
@[simp] theorem drive_resp (s : State) (w : CmdWord) : (s.drive w).resp = s.resp := rfl

@[simp] theorem nextWord_none (s : State) (h : s.pending = []) : nextWord s = s.cmd := by simp [nextWord, h]
@[simp] theorem nextWord_request (s : State) (w : CmdWord) (rest : List CmdWord) (h : s.pending = w :: rest) :
    nextWord s = w := by simp [nextWord, h]

end Sys2Proof.Machine
end

