-- ==== Sys2Proof/Laws/Ops.lean ====
section
/-! SUPPORT. One lemma per shared operation: what it answers, and that it changes RESP alone. -/

namespace Sys2Proof.Machine

/-- A success answers next; only RESP changes. -/
theorem answerOk_eq (d : Data) (s : State) :
    answerOk d s = .next { s with resp := { status := 0, data := d } } := rfl

/-- A byte is zero-extended into DATA; only RESP changes. -/
theorem answerByte_eq (b : Byte) (s : State) :
    answerByte b s = .next { s with resp := { status := 0, data := zext32 b } } := rfl

/-- An `f32` pattern fills DATA; only RESP changes. -/
theorem answerF32_eq (f : F32) (s : State) :
    answerF32 f s = .next { s with resp := { status := 0, data := f } } := rfl

/-- A failure answers next, with its code and DATA 0; only RESP changes. -/
theorem raise_eq (f : Failure) (s : State) :
    raise f s = .next { s with resp := { status := failureStatus f, data := 0 } } := rfl

/-- A default accessor answers the default's identifier; only RESP changes. -/
theorem answerDefault_eq {V : Type} (S : VariantSet V) (s : State) :
    answerDefault S s = .next { s with resp := { status := 0, data := zext32 (S.disc S.dflt) } } := rfl

/-- `lookup` finds a variant whose discriminant is the byte asked for. -/
theorem disc_of_lookup {V : Type} {S : VariantSet V} {x : Byte} {v : V} (h : lookup S x = some v) :
    S.disc v = x := by
  simpa using List.find?_some h

/-- `lookup` finds nothing exactly when no variant of the table has that discriminant. -/
theorem lookup_eq_none_iff {V : Type} {S : VariantSet V} {x : Byte} :
    lookup S x = none ↔ ∀ v ∈ S.variants, S.disc v ≠ x := by
  simp [lookup, List.find?_eq_none]

/-- What a decode answers: `x` itself where some variant of the table has that discriminant, and the
failure InvalidDiscriminant where none has; only RESP changes. -/
theorem answerDecode_cases {V : Type} (F : FieldSet V) (x : Byte) (s : State) :
    (∃ v ∈ F.variants, F.disc v = x ∧ decodeField F x = .ok v ∧
      answerDecode F x s = .next { s with resp := { status := 0, data := zext32 x } }) ∨
    ((∀ v ∈ F.variants, F.disc v ≠ x) ∧ decodeField F x = .fail .invalidDiscriminant ∧
      answerDecode F x s = .next { s with resp := { status := 1, data := 0 } }) := by
  cases h : lookup F.toVariantSet x with
  | some v =>
    have hd : F.disc v = x := disc_of_lookup h
    have hf : decodeField F x = .ok v := by simp [decodeField, h]
    exact .inl ⟨v, List.mem_of_find?_eq_some h, hd, hf, by simp [answerDecode, hf, hd, answerByte_eq]⟩
  | none =>
    have hf : decodeField F x = .fail .invalidDiscriminant := by simp [decodeField, h]
    exact .inr ⟨lookup_eq_none_iff.mp h, hf, by simp [answerDecode, hf, raise_eq, failureStatus]⟩

end Sys2Proof.Machine
end

