-- ==== Sys2Proof/Laws/PerInstr.lean ====
section
/-! SUPPORT. Statements made per instruction. MatchesRow: the encoded word matches the `match` and `mask` of
the instruction's row in spec/opcode_table.json, copied here as that file writes them. -/

namespace Sys2Proof.Laws.MatchesRow

/-- The `match` of the instruction's row. -/
def rowMatch : Instr → CmdWord
  | .maskArange => 0x0100
  | .maskGrange => 0x0200
  | .maskPwr => 0x0300
  | .maskAodr => 0x0400
  | .maskGodr => 0x0500
  | .maskAbw => 0x0600
  | .maskGbw => 0x0700
  | .encArange _ => 0x1100
  | .encGrange _ => 0x1200
  | .encPwr _ => 0x1300
  | .encAodr _ => 0x1400
  | .encGodr _ => 0x1500
  | .encAbw _ => 0x1600
  | .encGbw _ => 0x1700
  | .decArange _ => 0x2100
  | .decGrange _ => 0x2200
  | .decPwr _ => 0x2300
  | .decAodr _ => 0x2400
  | .decGodr _ => 0x2500
  | .decAbw _ => 0x2600
  | .decGbw _ => 0x2700
  | .scaleArange _ => 0x3100
  | .scaleGrange _ => 0x3200
  | .freqAodr _ => 0x4400
  | .freqGodr _ => 0x4500
  | .freqAbw _ => 0x4600
  | .freqGbw _ => 0x4700
  | .dfltAddr => 0x5000
  | .dfltArange => 0x5100
  | .dfltGrange => 0x5200
  | .dfltPwr => 0x5300
  | .dfltAodr => 0x5400
  | .dfltGodr => 0x5500
  | .dfltAbw => 0x5600
  | .dfltGbw => 0x5700
  | .addrAddr _ => 0x6000

/-- The `mask` of the instruction's row: 0xFFFF for a row with no operand, 0xFF00 for one with an operand. -/
def rowMask : Instr → CmdWord
  | .maskArange => 0xFFFF
  | .maskGrange => 0xFFFF
  | .maskPwr => 0xFFFF
  | .maskAodr => 0xFFFF
  | .maskGodr => 0xFFFF
  | .maskAbw => 0xFFFF
  | .maskGbw => 0xFFFF
  | .encArange _ => 0xFF00
  | .encGrange _ => 0xFF00
  | .encPwr _ => 0xFF00
  | .encAodr _ => 0xFF00
  | .encGodr _ => 0xFF00
  | .encAbw _ => 0xFF00
  | .encGbw _ => 0xFF00
  | .decArange _ => 0xFF00
  | .decGrange _ => 0xFF00
  | .decPwr _ => 0xFF00
  | .decAodr _ => 0xFF00
  | .decGodr _ => 0xFF00
  | .decAbw _ => 0xFF00
  | .decGbw _ => 0xFF00
  | .scaleArange _ => 0xFF00
  | .scaleGrange _ => 0xFF00
  | .freqAodr _ => 0xFF00
  | .freqGodr _ => 0xFF00
  | .freqAbw _ => 0xFF00
  | .freqGbw _ => 0xFF00
  | .dfltAddr => 0xFFFF
  | .dfltArange => 0xFFFF
  | .dfltGrange => 0xFFFF
  | .dfltPwr => 0xFFFF
  | .dfltAodr => 0xFFFF
  | .dfltGodr => 0xFFFF
  | .dfltAbw => 0xFFFF
  | .dfltGbw => 0xFFFF
  | .addrAddr _ => 0xFF00

/-- The word of `i` has the fixed bits of its row. -/
def Statement (i : Instr) : Prop := encode i &&& rowMask i = rowMatch i

theorem maskArange : Statement .maskArange := by unfold Statement; decide
theorem maskGrange : Statement .maskGrange := by unfold Statement; decide
theorem maskPwr : Statement .maskPwr := by unfold Statement; decide
theorem maskAodr : Statement .maskAodr := by unfold Statement; decide
theorem maskGodr : Statement .maskGodr := by unfold Statement; decide
theorem maskAbw : Statement .maskAbw := by unfold Statement; decide
theorem maskGbw : Statement .maskGbw := by unfold Statement; decide
theorem encArange (v : AccelRange) : Statement (.encArange v) := by unfold Statement; cases v <;> decide
theorem encGrange (v : GyroRange) : Statement (.encGrange v) := by unfold Statement; cases v <;> decide
theorem encPwr (v : PowerMode) : Statement (.encPwr v) := by unfold Statement; cases v <;> decide
theorem encAodr (v : AccelOdr) : Statement (.encAodr v) := by unfold Statement; cases v <;> decide
theorem encGodr (v : GyroOdr) : Statement (.encGodr v) := by unfold Statement; cases v <;> decide
theorem encAbw (v : AccelBw) : Statement (.encAbw v) := by unfold Statement; cases v <;> decide
theorem encGbw (v : GyroBw) : Statement (.encGbw v) := by unfold Statement; cases v <;> decide
theorem decArange (x : Byte) : Statement (.decArange x) := by unfold Statement; revert x; decide
theorem decGrange (x : Byte) : Statement (.decGrange x) := by unfold Statement; revert x; decide
theorem decPwr (x : Byte) : Statement (.decPwr x) := by unfold Statement; revert x; decide
theorem decAodr (x : Byte) : Statement (.decAodr x) := by unfold Statement; revert x; decide
theorem decGodr (x : Byte) : Statement (.decGodr x) := by unfold Statement; revert x; decide
theorem decAbw (x : Byte) : Statement (.decAbw x) := by unfold Statement; revert x; decide
theorem decGbw (x : Byte) : Statement (.decGbw x) := by unfold Statement; revert x; decide
theorem scaleArange (v : AccelRange) : Statement (.scaleArange v) := by unfold Statement; cases v <;> decide
theorem scaleGrange (v : GyroRange) : Statement (.scaleGrange v) := by unfold Statement; cases v <;> decide
theorem freqAodr (v : AccelOdr) : Statement (.freqAodr v) := by unfold Statement; cases v <;> decide
theorem freqGodr (v : GyroOdr) : Statement (.freqGodr v) := by unfold Statement; cases v <;> decide
theorem freqAbw (v : AccelBw) : Statement (.freqAbw v) := by unfold Statement; cases v <;> decide
theorem freqGbw (v : GyroBw) : Statement (.freqGbw v) := by unfold Statement; cases v <;> decide
theorem dfltAddr : Statement .dfltAddr := by unfold Statement; decide
theorem dfltArange : Statement .dfltArange := by unfold Statement; decide
theorem dfltGrange : Statement .dfltGrange := by unfold Statement; decide
theorem dfltPwr : Statement .dfltPwr := by unfold Statement; decide
theorem dfltAodr : Statement .dfltAodr := by unfold Statement; decide
theorem dfltGodr : Statement .dfltGodr := by unfold Statement; decide
theorem dfltAbw : Statement .dfltAbw := by unfold Statement; decide
theorem dfltGbw : Statement .dfltGbw := by unfold Statement; decide
theorem addrAddr (v : Address) : Statement (.addrAddr v) := by unfold Statement; cases v <;> decide

end Sys2Proof.Laws.MatchesRow
end

