-- ==== Sys2Proof/Laws/Step.lean ====
section
/-! SUPPORT. What a decode answers as one response, and everything the block and a step can do. -/

namespace Sys2Proof.Machine

/-- The response a decode gives. -/
def decodeResponse {V : Type} (F : FieldSet V) (x : Byte) : Response :=
  match decodeField F x with
  | .ok v => { status := 0, data := zext32 (F.disc v) }
  | .fail f => { status := failureStatus f, data := 0 }

theorem answerDecode_eq {V : Type} (F : FieldSet V) (x : Byte) (s : State) :
    answerDecode F x s = .next { s with resp := decodeResponse F x } := by
  unfold answerDecode decodeResponse
  cases decodeField F x <;> rfl

/-- The block on a word that decodes to an instruction. -/
theorem evaluate_of_instr {w : CmdWord} {i : Instr} (h : decode w = .instr i) (s : State) :
    evaluate w s = exec i { s with cmd := w } := by
  simp [evaluate, h, State.drive]

/-- The block on a word that decodes to none. -/
theorem evaluate_of_illegal {w : CmdWord} {why : IllegalReason} (h : decode w = .illegal why) (s : State) :
    evaluate w s = .next { s with cmd := w, resp := { status := 2, data := 0 } } := by
  simp [evaluate, h, raise_eq, failureStatus, State.drive]

/-- Everything the block can do with a word. -/
theorem evaluate_cases (w : CmdWord) (s : State) :
    (∃ i, decode w = .instr i ∧ evaluate w s = exec i { s with cmd := w }) ∨
    (∃ why, decode w = .illegal why ∧
      evaluate w s = .next { s with cmd := w, resp := { status := 2, data := 0 } }) := by
  cases h : decode w with
  | instr i => exact .inl ⟨i, rfl, evaluate_of_instr h s⟩
  | illegal why => exact .inr ⟨why, rfl, evaluate_of_illegal h s⟩

/-- A step with a request waiting gives it to the block. -/
theorem step_of_request {s : State} {w : CmdWord} {rest : List CmdWord} (h : s.pending = w :: rest) :
    step s = evaluate w { s with pending := rest } := by
  simp [step, takeRequest, nextWord, h]

/-- A step with no request waiting evaluates the word on CMD. -/
theorem step_of_none {s : State} (h : s.pending = []) : step s = evaluate s.cmd s := by
  obtain ⟨cmd, pending, resp⟩ := s
  cases h
  rfl

/-- A run of one more step than `k` is a step, then a run of `k`. -/
theorem run_succ_of_step {s s' : State} (h : step s = .next s') (k : Nat) :
    Host.Core.run Sys2Proof.core (k + 1) s = Host.Core.run Sys2Proof.core k s' := by
  simp only [Host.Core.run]
  rw [show Sys2Proof.core.step s = .next s' from h]

end Sys2Proof.Machine
end

