-- ==== Sys2Proof/Tests/Slice0.lean ====
section
/-! SUPPORT. The model's own tests. Expected results are the spec's: the encodings of opcode_table.json and
30_encoding R55 to R58, and the vectors of 95_test_vectors (each test names its table). Every statement with
hypotheses has a `witness_` theorem. -/

namespace Sys2Proof.Tests

open Sys2Proof Sys2Proof.Machine

/-! ### Well-formedness: one ill-formed command for each check (V6) -/

theorem test_pair_blank : ({ op := 3, set := 3, operand := 0 } : Command).wellFormed = false := by decide
theorem test_pair_blank_check : ({ op := 3, set := 3, operand := 0 } : Command).pairLegal = false := by decide
theorem test_unused_operand : ({ op := 5, set := 3, operand := 1 } : Command).wellFormed = false := by decide
theorem test_unused_operand_check : ({ op := 5, set := 3, operand := 1 } : Command).unusedOperandZero = false := by
  decide
theorem test_variant_operand : ({ op := 4, set := 5, operand := 13 } : Command).wellFormed = false := by decide
theorem test_variant_operand_check : ({ op := 4, set := 5, operand := 13 } : Command).variantOperandLegal = false := by
  decide
theorem test_wellFormed_dec : ({ op := 2, set := 5, operand := 0xFF } : Command).wellFormed = true := by decide

/-! ### Decoding: every constructor, its word written out bit by bit from the encoding of its row -/

theorem test_decode_maskArange : decode 0b0000_0001_00000000 = .instr .maskArange := by decide
theorem test_decode_maskGrange : decode 0b0000_0010_00000000 = .instr .maskGrange := by decide
theorem test_decode_maskPwr : decode 0b0000_0011_00000000 = .instr .maskPwr := by decide
theorem test_decode_maskAodr : decode 0b0000_0100_00000000 = .instr .maskAodr := by decide
theorem test_decode_maskGodr : decode 0b0000_0101_00000000 = .instr .maskGodr := by decide
theorem test_decode_maskAbw : decode 0b0000_0110_00000000 = .instr .maskAbw := by decide
theorem test_decode_maskGbw : decode 0b0000_0111_00000000 = .instr .maskGbw := by decide
theorem test_decode_encArange : decode 0b0001_0001_00000011 = .instr (.encArange .g2) := by decide
theorem test_decode_encGrange : decode 0b0001_0010_00000011 = .instr (.encGrange .deg250) := by decide
theorem test_decode_encPwr : decode 0b0001_0011_00010000 = .instr (.encPwr .idle) := by decide
theorem test_decode_encAodr : decode 0b0001_0100_00001111 = .instr (.encAodr .hz1_5625) := by decide
theorem test_decode_encGodr : decode 0b0001_0101_00001100 = .instr (.encGodr .hz12_5) := by decide
theorem test_decode_encAbw : decode 0b0001_0110_00000111 = .instr (.encAbw .hz16) := by decide
theorem test_decode_encGbw : decode 0b0001_0111_00000111 = .instr (.encGbw .hz16) := by decide
theorem test_decode_decArange : decode 0b0010_0001_10100101 = .instr (.decArange 0b10100101) := by decide
theorem test_decode_decGrange : decode 0b0010_0010_00000000 = .instr (.decGrange 0b00000000) := by decide
theorem test_decode_decPwr : decode 0b0010_0011_01001111 = .instr (.decPwr 0b01001111) := by decide
theorem test_decode_decAodr : decode 0b0010_0100_11111111 = .instr (.decAodr 0b11111111) := by decide
theorem test_decode_decGodr : decode 0b0010_0101_00001100 = .instr (.decGodr 0b00001100) := by decide
theorem test_decode_decAbw : decode 0b0010_0110_00000111 = .instr (.decAbw 0b00000111) := by decide
theorem test_decode_decGbw : decode 0b0010_0111_10000000 = .instr (.decGbw 0b10000000) := by decide
theorem test_decode_scaleArange : decode 0b0011_0001_00000001 = .instr (.scaleArange .g8) := by decide
theorem test_decode_scaleGrange : decode 0b0011_0010_00000001 = .instr (.scaleGrange .deg1000) := by decide
theorem test_decode_freqAodr : decode 0b0100_0100_00001110 = .instr (.freqAodr .hz3_125) := by decide
theorem test_decode_freqGodr : decode 0b0100_0101_00001000 = .instr (.freqGodr .hz200) := by decide
theorem test_decode_freqAbw : decode 0b0100_0110_00000110 = .instr (.freqAbw .hz25) := by decide
theorem test_decode_freqGbw : decode 0b0100_0111_00000110 = .instr (.freqGbw .hz25) := by decide
theorem test_decode_dfltAddr : decode 0b0101_0000_00000000 = .instr .dfltAddr := by decide
theorem test_decode_dfltArange : decode 0b0101_0001_00000000 = .instr .dfltArange := by decide
theorem test_decode_dfltGrange : decode 0b0101_0010_00000000 = .instr .dfltGrange := by decide
theorem test_decode_dfltPwr : decode 0b0101_0011_00000000 = .instr .dfltPwr := by decide
theorem test_decode_dfltAodr : decode 0b0101_0100_00000000 = .instr .dfltAodr := by decide
theorem test_decode_dfltGodr : decode 0b0101_0101_00000000 = .instr .dfltGodr := by decide
theorem test_decode_dfltAbw : decode 0b0101_0110_00000000 = .instr .dfltAbw := by decide
theorem test_decode_dfltGbw : decode 0b0101_0111_00000000 = .instr .dfltGbw := by decide
theorem test_decode_addrAddr : decode 0b0110_0000_01101001 = .instr (.addrAddr .secondary) := by decide

/-! ### Illegal words are refused by name (V6) -/

theorem test_illegal_op7 : decode 0x7000 = .illegal .reservedOp := by decide
theorem test_illegal_op15 : decode 0xF123 = .illegal .reservedOp := by decide
theorem test_illegal_set8 : decode 0x0800 = .illegal .reservedSet := by decide
theorem test_illegal_set15 : decode 0x2F00 = .illegal .reservedSet := by decide
theorem test_illegal_mask_addr : decode 0x0000 = .illegal .blankPair := by decide
theorem test_illegal_scale_aodr : decode 0x3400 = .illegal .blankPair := by decide
theorem test_illegal_addr_arange : decode 0x6100 = .illegal .blankPair := by decide
theorem test_illegal_dflt_operand : decode 0x5301 = .illegal .operandNotZero := by decide
theorem test_illegal_enc_aodr_4 : decode 0x1404 = .illegal .operandNotVariant := by decide
theorem test_illegal_freq_godr_13 : decode 0x450D = .illegal .operandNotVariant := by decide
theorem test_illegal_addr_6A : decode 0x606A = .illegal .operandNotVariant := by decide

/-! ### One step on a word (V1 to V6): what RESP holds after it -/

/-- RESP after one step from reset on a table word. -/
def respAfter (w : Nat) : Option Response :=
  match step (State.reset.withFetchWord 16 w) with
  | .next s => some s.resp
  | _ => none

theorem test_addr_secondary : respAfter 0x6069 = some { status := 0, data := 0x69 } := by decide
theorem test_dflt_addr : respAfter 0x5000 = some { status := 0, data := 0x68 } := by decide
theorem test_mask_arange : respAfter 0x0100 = some { status := 0, data := 0x60 } := by decide
theorem test_enc_arange_g2 : respAfter 0x1103 = some { status := 0, data := 0x60 } := by decide
theorem test_dec_arange_unshifted : respAfter 0x2140 = some { status := 1, data := 0 } := by decide
theorem test_scale_arange_g2 : respAfter 0x3103 = some { status := 0, data := 0x46800000 } := by decide
theorem test_scale_grange_deg2000 : respAfter 0x3200 = some { status := 0, data := 0x41833333 } := by decide
theorem test_scale_grange_deg1000 : respAfter 0x3201 = some { status := 0, data := 0x42033333 } := by decide
theorem test_enc_pwr_idle : respAfter 0x1310 = some { status := 0, data := 0x10 } := by decide
theorem test_dec_pwr_14 : respAfter 0x230E = some { status := 1, data := 0 } := by decide
theorem test_dec_aodr_15 : respAfter 0x240F = some { status := 0, data := 0x0F } := by decide
theorem test_dec_godr_13 : respAfter 0x250D = some { status := 1, data := 0 } := by decide
theorem test_freq_aodr_1_5625 : respAfter 0x440F = some { status := 0, data := 0x3FC80000 } := by decide
theorem test_freq_abw_73 : respAfter 0x4603 = some { status := 0, data := 0x42920000 } := by decide
theorem test_freq_gbw_10000 : respAfter 0x4700 = some { status := 0, data := 0x461C4000 } := by decide
theorem test_dflt_gbw : respAfter 0x5700 = some { status := 0, data := 1 } := by decide
theorem test_op7_answers_illegal : respAfter 0x7000 = some { status := 2, data := 0 } := by decide
theorem test_table_word : decodeTableWord 16 0x1303 = some (.encPwr .accelLowNoise) := by decide
theorem test_table_word_illegal : decodeTableWord 16 0x1301 = none := by decide
theorem test_waiting_request_kept :
    step { State.reset with pending := [0x0700, 0x5100] } =
      .next { cmd := 0x0700, pending := [0x5100], resp := { status := 0, data := 7 } } := rfl

/-! ### The primitive f32 (93 G1; a tie and a rounding carry by hand calculation) -/

theorem test_f32_16_4 : f32OfDecimal { digits := 164, places := 1 } = 0x41833333 := by decide
theorem test_f32_tie_to_even : f32OfRatio (2 ^ 24 + 1) 1 = 0x4B800000 := by decide
theorem test_f32_carry : f32OfRatio (2 ^ 25 - 1) 1 = 0x4C000000 := by decide
theorem test_f32_smallest : f32OfRatio 1 (2 ^ 149) = 0x00000001 := by decide
theorem test_f32_overflow : f32OfRatio (2 ^ 128) 1 = 0x7F800000 := by decide

/-! ### The caller's sequences (programs P1, P2, P3, P5 of L3) -/

theorem test_ext_pwr_5F : extField .pwr 0x5F = .next (.fail .invalidDiscriminant) := rfl
theorem test_ext_pwr_4F : extField .pwr 0x4F = .next (.ok 0x0F) := rfl
theorem test_ins_arange : insField .arange 0x00 2 = .next (.ok 0x40) := rfl
theorem test_ins_aodr : insField .aodr 0x40 9 = .next (.ok 0x49) := rfl
theorem test_ext_arange : extField .arange 0x49 = .next (.ok 2) := rfl
theorem test_ext_godr_0D : extField .godr 0x0D = .next (.fail .invalidDiscriminant) := rfl
theorem test_ext_aodr_0D : extField .aodr 0x0D = .next (.ok 0x0D) := rfl
theorem test_ins_pwr_keeps_bit7 : insField .pwr 0x83 0x0F = .next (.ok 0x8F) := rfl
theorem test_observe_reserved : observe { status := 3, data := 0 } = .fault .reservedStatus := rfl

/-! ### Assembler text (R65) -/

theorem test_asm_name : assemble "ENC.ARANGE G4".toList = some (.encArange .g4) := by decide
theorem test_asm_number : assemble "enc.arange 2".toList = some (.encArange .g4) := by decide
theorem test_asm_dec_binary : assemble "DEC.PWR 0b01111".toList = some (.decPwr 15) := by decide
theorem test_asm_dec_decimal : assemble "DEC.PWR 15".toList = some (.decPwr 15) := by decide
theorem test_asm_dec_hex : assemble "DEC.PWR 0x0F".toList = some (.decPwr 15) := by decide
theorem test_asm_addr : assemble "ADDR.ADDR Primary".toList = some (.addrAddr .primary) := by decide
theorem test_asm_no_operand : assembleWord "DFLT.GBW".toList = some 0x5700 := by decide
theorem test_asm_illegal_word : assembleWord "FREQ.GODR 13".toList = some 0x450D := by decide
theorem test_asm_illegal : assemble "FREQ.GODR 13".toList = none := by decide

/-! ### Witnesses: values that meet the hypotheses of the statements, one per clause, at the boundaries -/

theorem witness_DecodedWordIsTheEncodedWord : decode 0x13_10 = .instr (.encPwr .idle) := by decide

theorem witness_DecoderNamesTheFirstFailedCheck :
    7 ≤ (Command.ofWord 0x7000).op.toNat ∧
    ((Command.ofWord 0x6800).op.toNat < 7 ∧ 8 ≤ (Command.ofWord 0x6800).set.toNat) ∧
    ((Command.ofWord 0x6700).op.toNat < 7 ∧ (Command.ofWord 0x6700).set.toNat < 8 ∧
      (Command.ofWord 0x6700).pairLegal = false) ∧
    ((Command.ofWord 0x0701).pairLegal = true ∧ (Command.ofWord 0x0701).unusedOperandZero = false) ∧
    ((Command.ofWord 0x606A).pairLegal = true ∧ (Command.ofWord 0x606A).variantOperandLegal = false) := by decide

theorem witness_DiscriminantsAreDistinctWithinASet :
    Address.primary.disc = Address.primary.disc ∧ AccelRange.g2.disc = AccelRange.g2.disc ∧
    GyroRange.deg250.disc = GyroRange.deg250.disc ∧ PowerMode.idle.disc = PowerMode.idle.disc ∧
    AccelOdr.hz1600.disc = AccelOdr.hz1600.disc ∧ GyroOdr.hz12_5.disc = GyroOdr.hz12_5.disc ∧
    AccelBw.hz16.disc = AccelBw.hz16.disc ∧ GyroBw.hz16.disc = GyroBw.hz16.disc := by decide

theorem witness_ReservedPatternsFailToDecode :
    (5 : Byte) ∈ legalValues .aodr ∧ (4 : Byte) ∉ legalValues .aodr ∧ (16 : Byte) ∈ legalValues .pwr ∧
    (17 : Byte) ∉ legalValues .pwr ∧ (4 : Byte) ∉ legalValues .arange ∧ (255 : Byte) ∉ legalValues .gbw := by decide

theorem witness_DecodeRejectsInputsWiderThanTheField :
    (regMask .arange >>> regShift .arange).toNat < (4 : Byte).toNat ∧
    (regMask .pwr >>> regShift .pwr).toNat < (32 : Byte).toNat ∧
    (regMask .gbw >>> regShift .gbw).toNat < (255 : Byte).toNat := by decide

theorem witness_MaskAnswersTheFieldMask : (1 : Byte) ≠ 0 ∧ (255 : Byte) ≠ 0 := by decide

theorem witness_EncodeOfRangesAnswersBits6To5 : (3 : Byte).toNat ≤ 3 ∧ 3 < (4 : Byte).toNat := by decide

theorem witness_EncodeOfPowerModeAnswersItsFiveBits :
    (16 : Byte) ∈ ([0, 2, 3, 4, 12, 15, 16] : List Byte) ∧ (17 : Byte) ∉ ([0, 2, 3, 4, 12, 15, 16] : List Byte) := by
  decide

theorem witness_EncodeOfOdrsAnswersTheCode :
    (5 ≤ (15 : Byte).toNat ∧ (15 : Byte).toNat ≤ 15) ∧ ((4 : Byte).toNat < 5 ∨ 15 < (4 : Byte).toNat) ∧
    ((16 : Byte).toNat < 5 ∨ 15 < (16 : Byte).toNat) ∧ (5 ≤ (12 : Byte).toNat ∧ (12 : Byte).toNat ≤ 12) ∧
    ((13 : Byte).toNat < 5 ∨ 12 < (13 : Byte).toNat) := by decide

theorem witness_EncodeOfBandwidthsAnswersTheCode : (7 : Byte).toNat ≤ 7 ∧ 7 < (8 : Byte).toNat := by decide

theorem witness_DecodeOfRanges : (3 : Byte).toNat ≤ 3 ∧ 3 < (4 : Byte).toNat := by decide

theorem witness_DecodeOfPowerMode :
    (0 : Byte) ∈ ([0, 2, 3, 4, 12, 15, 16] : List Byte) ∧ (1 : Byte) ∉ ([0, 2, 3, 4, 12, 15, 16] : List Byte) := by
  decide

theorem witness_DecodeOfOdrs :
    (5 ≤ (5 : Byte).toNat ∧ (5 : Byte).toNat ≤ 15) ∧ ((16 : Byte).toNat < 5 ∨ 15 < (16 : Byte).toNat) ∧
    (5 ≤ (12 : Byte).toNat ∧ (12 : Byte).toNat ≤ 12) ∧ ((13 : Byte).toNat < 5 ∨ 12 < (13 : Byte).toNat) := by decide

theorem witness_DecodeOfBandwidths : (7 : Byte).toNat ≤ 7 ∧ 7 < (8 : Byte).toNat := by decide

theorem witness_ScaleAnswersTheSensitivity : 3 < (4 : Byte).toNat := by decide

theorem witness_FrequencyOfOdrsIsExact :
    ((4 : Byte).toNat < 5 ∨ 15 < (4 : Byte).toNat) ∧ ((13 : Byte).toNat < 5 ∨ 12 < (13 : Byte).toNat) := by decide

theorem witness_FrequencyOfBandwidths : 7 < (8 : Byte).toNat := by decide

theorem witness_BypassCodeIsASentinel : AccelBw.hz16 ≠ .hz10000 ∧ GyroBw.hz180 ≠ .hz10000 := by decide

theorem witness_DefaultAnswersTheResetVariant : (1 : Byte) ≠ 0 := by decide

theorem witness_DefaultOfAddressAndBandwidths : (0x68 : Byte) ≠ 0 := by decide

theorem witness_AddressAnswersTheBusAddress : (0x6A : Byte) ≠ 0x68 ∧ (0x6A : Byte) ≠ 0x69 := by decide

theorem witness_ExactlyIllegalWordsAnswerIllegalCommand :
    (Command.ofWord 0x0000).wellFormed = false ∧ (Command.ofWord 0x2301).wellFormed = true ∧
    evaluate 0x2301 State.reset =
      .next { cmd := 0x2301, pending := [], resp := { status := 1, data := 0 } } := ⟨by decide, by decide, rfl⟩

theorem witness_OnlyDecodesFail : (Instr.scaleArange .g4).op ≠ .dec := by decide

theorem witness_PowerModeIsNotAProductOfSubStates :
    gyroSubState (gyroSubCode PowerMode.sixAxisLowNoise.disc) = some .lowNoise := by decide

theorem witness_GyroOdrLacksTheThreeLowestRates :
    (13 ≤ (15 : Byte).toNat ∧ (15 : Byte).toNat ≤ 15) ∧
    13 ≤ AccelOdr.hz6_25.disc.toNat ∧ AccelOdr.hz12_5.disc.toNat < 13 := by decide

/-- A constant that is not exact, and a tie: 2^24 + 1 lies midway between the patterns 0x4B800000 and
0x4B800001. -/
theorem witness_F32IsNearestTiesToEven :
    (0 < 10 ∧ f32Pattern 164 10 < 0x7F800000 ∧ 0 < 0x7F800000) ∧
    0x4B800001 < 0x7F800000 ∧ 0x4B800001 ≠ f32Pattern (2 ^ 24 + 1) 1 ∧
    ((f32Units (f32Pattern (2 ^ 24 + 1) 1) * (1 : Nat) : Int) - ((2 ^ 24 + 1 : Nat) : Int) * 2 ^ 149).natAbs =
      ((f32Units 0x4B800001 * (1 : Nat) : Int) - ((2 ^ 24 + 1 : Nat) : Int) * 2 ^ 149).natAbs := by decide

theorem witness_StepRunsTheDecodedInstruction :
    (State.reset.withFetchWord 16 0x230F).pending = 0x230F :: [] ∧ decode 0x230F = .instr (.decPwr 15) ∧
    ({ State.reset with cmd := 0x0100 } : State).pending = [] ∧
    decode ({ State.reset with cmd := 0x0100 } : State).cmd = .instr .maskArange := by decide

theorem witness_StepAnswersIllegalCommand :
    (State.reset.withFetchWord 16 0x7000).pending = 0x7000 :: [] ∧ decode 0x7000 = .illegal .reservedOp := by decide

theorem witness_StepKeepsTheResponseConforming :
    State.reset.resp.conforming = true ∧
    step (State.reset.withFetchWord 16 0x2301) =
      .next { cmd := 0x2301, pending := [], resp := { status := 1, data := 0 } } := ⟨by decide, rfl⟩

theorem witness_StepKeepsTheResponseSettled :
    Settled State.reset ∧
    step (State.reset.withFetchWord 16 0x1303) =
      .next { cmd := 0x1303, pending := [], resp := { status := 0, data := 3 } } := ⟨rfl, rfl⟩

theorem witness_ResetHoldsNothing :
    step (State.reset.request 0x5400) = .next { cmd := 0x5400, pending := [], resp := { status := 0, data := 6 } } ∧
    step { cmd := 0x2301, pending := 0x5400 :: [0x0700], resp := { status := 1, data := 0 } } =
      .next { cmd := 0x5400, pending := [0x0700], resp := { status := 0, data := 6 } } := ⟨rfl, rfl⟩

theorem witness_ResponseDependsOnTheCommandAlone :
    nextWord (State.reset.withFetchWord 16 0x5400) =
      nextWord { cmd := 0x5400, pending := [], resp := { status := 1, data := 0 } } := by decide

theorem witness_EveryRequestIsAnsweredAsWhenAlone :
    ({ State.reset with pending := [0x7000, 0x2301, 0x6068] } : State).pending =
      [0x7000] ++ 0x2301 :: [0x6068] := by decide

theorem witness_ExtDecodesThePreparedField :
    prepareField .pwr 0x4F ∈ regDiscs .pwr ∧ prepareField .pwr 0x5F ∉ regDiscs .pwr := by decide

theorem witness_InsThenExtGivesTheVariantBack : (15 : Byte) ∈ regDiscs .aodr ∧ (16 : Byte) ∈ regDiscs .pwr := by
  decide

theorem witness_InsKeepsDisjointFields : disjoint .arange .aodr = true ∧ (2 : Byte) ∈ regDiscs .arange := by decide

theorem witness_InsOfNoVariantFails : (13 : Byte) ∉ regDiscs .godr ∧ (1 : Byte) ∉ regDiscs .pwr := by decide

end Sys2Proof.Tests
end

/-! ### Variant sets: the discriminant names the variant (spec 10_state R21) -/

namespace Sys2Proof.Machine

/-! `lookup` undoes the discriminant of each set: no earlier row of the set's table has that code. -/

@[simp] theorem lookup_addressSet_disc (v : Address) : lookup addressSet v.disc = some v := by
  cases v <;> rfl

@[simp] theorem lookup_accelRange_disc (v : AccelRange) :
    lookup accelRangeField.toVariantSet v.disc = some v := by
  cases v <;> rfl

@[simp] theorem lookup_gyroRange_disc (v : GyroRange) :
    lookup gyroRangeField.toVariantSet v.disc = some v := by
  cases v <;> rfl

@[simp] theorem lookup_powerMode_disc (v : PowerMode) :
    lookup powerModeField.toVariantSet v.disc = some v := by
  cases v <;> rfl

@[simp] theorem lookup_accelOdr_disc (v : AccelOdr) :
    lookup accelOdrField.toVariantSet v.disc = some v := by
  cases v <;> rfl

@[simp] theorem lookup_gyroOdr_disc (v : GyroOdr) :
    lookup gyroOdrField.toVariantSet v.disc = some v := by
  cases v <;> rfl

@[simp] theorem lookup_accelBw_disc (v : AccelBw) :
    lookup accelBwField.toVariantSet v.disc = some v := by
  cases v <;> rfl

@[simp] theorem lookup_gyroBw_disc (v : GyroBw) :
    lookup gyroBwField.toVariantSet v.disc = some v := by
  cases v <;> rfl

/-- A set whose `lookup` undoes its discriminant has no two variants with one discriminant. -/
theorem eq_of_disc_eq {V : Type} {S : VariantSet V} (hS : ∀ v, lookup S (S.disc v) = some v) (u v : V)
    (h : S.disc u = S.disc v) : u = v :=
  Option.some.inj <| calc
    some u = lookup S (S.disc u) := (hS u).symm
    _ = lookup S (S.disc v) := by rw [h]
    _ = some v := hS v

/-- Settles O7: in each of the eight sets `lookup` is a left inverse of the discriminant. -/
theorem discriminantsAreDistinctWithinASet : Obligations.DiscriminantsAreDistinctWithinASet :=
  ⟨eq_of_disc_eq lookup_addressSet_disc, eq_of_disc_eq lookup_accelRange_disc,
    eq_of_disc_eq lookup_gyroRange_disc, eq_of_disc_eq lookup_powerMode_disc,
    eq_of_disc_eq lookup_accelOdr_disc, eq_of_disc_eq lookup_gyroOdr_disc,
    eq_of_disc_eq lookup_accelBw_disc, eq_of_disc_eq lookup_gyroBw_disc⟩

end Sys2Proof.Machine

/-! ### What an instruction can do (spec 20_memory R39; 60_exceptions R122) -/

namespace Sys2Proof.Machine

/-- Every instruction but a decode is a successful answer, with data that no state enters. -/
theorem exec_eq_answerOk {i : Instr} (h : i.op ≠ .dec) : ∃ d : Data, ∀ s : State, exec i s = answerOk d s := by
  cases i with
  | decArange | decGrange | decPwr | decAodr | decGodr | decAbw | decGbw => exact absurd rfl h
  | _ => exact ⟨_, fun _ => rfl⟩

/-- A decode instruction is the answer to a decode of its byte in its field set. -/
theorem exec_eq_answerDecode {i : Instr} (h : i.op = .dec) :
    ∃ (V : Type) (F : FieldSet V) (x : Byte), ∀ s : State, exec i s = answerDecode F x s := by
  cases i with
  | decArange x | decGrange x | decPwr x | decAodr x | decGodr x | decAbw x | decGbw x =>
    exact ⟨_, _, x, fun _ => rfl⟩
  | _ => cases h

/-- Settles O36: an instruction is either a successful answer or the answer to a decode, and each of the two
gives one response in every state and changes RESP alone. -/
theorem operationsHaveNoSideEffect : Obligations.OperationsHaveNoSideEffect := by
  intro i
  by_cases h : i.op = .dec
  · obtain ⟨V, F, x, hdec⟩ := exec_eq_answerDecode h
    exact ⟨decodeResponse F x, fun s => (hdec s).trans (answerDecode_eq F x s)⟩
  · obtain ⟨d, hok⟩ := exec_eq_answerOk h
    exact ⟨{ status := 0, data := d }, fun s => (hok s).trans (answerOk_eq d s)⟩

end Sys2Proof.Machine

/-! ### The DEC command of a register-field set (spec 30_encoding R63, R69) -/

namespace Sys2Proof.Machine

/-- Every discriminant of a set fits its field (R18). -/
theorem le_regMax_of_mem_regDiscs (f : RegSet) : ∀ x ∈ regDiscs f, x.toNat ≤ (regMax f).toNat := by
  cases f <;> decide

/-- The legal values of a field are its set's discriminants: `legalValues` sorts them and drops none. -/
theorem mem_legalValues_iff {f : RegSet} {x : Byte} : x ∈ legalValues f ↔ x ∈ regDiscs f := by
  simp only [legalValues, List.mem_filter, List.contains_iff_mem, and_iff_right_iff_imp, List.mem_map,
    List.mem_range]
  intro hx
  exact ⟨x.toNat, Nat.lt_succ_of_le (le_regMax_of_mem_regDiscs f x hx), by simp⟩

/-- The DEC command of a register-field set answers with the decode of its OPERAND in a field set of the
same discriminants. -/
theorem evaluate_dec (f : RegSet) (x : Byte) :
    ∃ (V : Type) (F : FieldSet V), F.variants.map F.disc = regDiscs f ∧ ∀ s : State,
      evaluate (cmdWord .dec (regSetId f) x) s =
        answerDecode F x { s with cmd := cmdWord .dec (regSetId f) x } := by
  have hdec := decode_cmdWord .dec (regSetId f) x
  cases f with
  | arange => exact ⟨_, accelRangeField, rfl, evaluate_of_instr hdec⟩
  | grange => exact ⟨_, gyroRangeField, rfl, evaluate_of_instr hdec⟩
  | pwr => exact ⟨_, powerModeField, rfl, evaluate_of_instr hdec⟩
  | aodr => exact ⟨_, accelOdrField, rfl, evaluate_of_instr hdec⟩
  | godr => exact ⟨_, gyroOdrField, rfl, evaluate_of_instr hdec⟩
  | abw => exact ⟨_, accelBwField, rfl, evaluate_of_instr hdec⟩
  | gbw => exact ⟨_, gyroBwField, rfl, evaluate_of_instr hdec⟩

/-- A DEC command whose OPERAND is a discriminant of the set answers that OPERAND. -/
theorem answers_dec_of_mem {f : RegSet} {x : Byte} (hx : x ∈ regDiscs f) :
    Answers (cmdWord .dec (regSetId f) x) 0 (zext32 x) := by
  obtain ⟨V, F, hF, hev⟩ := evaluate_dec f x
  obtain ⟨v, hv, hvx⟩ := List.mem_map.mp (hF ▸ hx)
  intro s
  rw [hev]
  obtain ⟨-, -, -, -, hok⟩ | ⟨hnone, -, -⟩ := answerDecode_cases F x { s with cmd := _ }
  · exact hok
  · exact absurd hvx (hnone v hv)

/-- A DEC command whose OPERAND is no discriminant of the set, a wider byte included, answers
INVALID_DISCRIMINANT. -/
theorem answers_dec_of_not_mem {f : RegSet} {x : Byte} (hx : x ∉ regDiscs f) :
    Answers (cmdWord .dec (regSetId f) x) 1 0 := by
  obtain ⟨V, F, hF, hev⟩ := evaluate_dec f x
  intro s
  rw [hev]
  obtain ⟨v, hv, hvx, -, -⟩ | ⟨-, -, hfail⟩ := answerDecode_cases F x { s with cmd := _ }
  · exact absurd (hF ▸ List.mem_map.mpr ⟨v, hv, hvx⟩) hx
  · exact hfail

/-- Settles O13: the tables of R63 are computed, and a value is legal exactly when it is a discriminant of
its set, which is what a DEC command asks of its OPERAND. -/
theorem reservedPatternsFailToDecode : Obligations.ReservedPatternsFailToDecode :=
  ⟨by decide, by decide, by decide, by decide, by decide, by decide, by decide, fun _ _ =>
    ⟨fun hlegal => answers_dec_of_mem (mem_legalValues_iff.mp hlegal),
      fun hillegal => answers_dec_of_not_mem (mt mem_legalValues_iff.mpr hillegal)⟩⟩

end Sys2Proof.Machine

/-! ### The typed decode of a register-field set (spec 40_field_abstraction R69) -/

namespace Sys2Proof.Machine

section
variable {V : Type} {F : FieldSet V}

/-- A decode succeeds with what `lookup` finds. -/
theorem decodeField_eq_ok_iff_lookup {x : Byte} {v : V} :
    decodeField F x = .ok v ↔ lookup F.toVariantSet x = some v := by
  cases h : lookup F.toVariantSet x <;> simp [decodeField, h]

/-- A decode fails, and then with InvalidDiscriminant, exactly when it succeeds with no variant. -/
theorem decodeField_eq_fail_iff_forall_ne_ok {x : Byte} :
    decodeField F x = .fail .invalidDiscriminant ↔ ∀ v, decodeField F x ≠ .ok v := by
  cases h : lookup F.toVariantSet x <;> simp [decodeField, h]

/-- Where `lookup` undoes the discriminant, a decode gives the variant with that discriminant. -/
theorem decodeField_eq_ok_iff (hF : ∀ v, lookup F.toVariantSet (F.disc v) = some v) {x : Byte} {v : V} :
    decodeField F x = .ok v ↔ F.disc v = x := by
  rw [decodeField_eq_ok_iff_lookup]
  constructor
  · exact disc_of_lookup
  · rintro rfl
    exact hF v

/-- Where `lookup` undoes the discriminant, a decode meets both halves of R69: it gives the variant with
that discriminant, and fails with InvalidDiscriminant when there is none. -/
theorem decodeField_ok_and_fail_iff (hF : ∀ v, lookup F.toVariantSet (F.disc v) = some v) (x : Byte) :
    (∀ v, decodeField F x = .ok v ↔ F.disc v = x) ∧
    (decodeField F x = .fail .invalidDiscriminant ↔ ∀ v, F.disc v ≠ x) := by
  refine ⟨fun v => decodeField_eq_ok_iff hF, ?_⟩
  rw [decodeField_eq_fail_iff_forall_ne_ok]
  exact forall_congr' fun v => not_congr (decodeField_eq_ok_iff hF)

end

/-- Settles O8: in each register-field set `lookup` is a left inverse of the discriminant. -/
theorem decodeReturnsTheVariantWithThatDiscriminant :
    Obligations.DecodeReturnsTheVariantWithThatDiscriminant :=
  ⟨decodeField_ok_and_fail_iff lookup_accelRange_disc, decodeField_ok_and_fail_iff lookup_gyroRange_disc,
    decodeField_ok_and_fail_iff lookup_powerMode_disc, decodeField_ok_and_fail_iff lookup_accelOdr_disc,
    decodeField_ok_and_fail_iff lookup_gyroOdr_disc, decodeField_ok_and_fail_iff lookup_accelBw_disc,
    decodeField_ok_and_fail_iff lookup_gyroBw_disc⟩

end Sys2Proof.Machine

/-! ### ADDR.ADDR (spec 41_address R77) -/

namespace Sys2Proof

/-- An OPERAND that is no variant identifier of the set is refused (R58). -/
theorem decodeVariantOperand_of_forall_ne {V : Type} {S : VariantSet V} {x : Byte} (i : V → Instr)
    (h : ∀ v ∈ S.variants, S.disc v ≠ x) : decodeVariantOperand S i x = .illegal .operandNotVariant := by
  simp [decodeVariantOperand, Machine.lookup_eq_none_iff.mpr h]

namespace Machine

/-- A word that decodes to no instruction is answered ILLEGAL_COMMAND with DATA 0 (R62). -/
theorem answers_of_illegal {w : CmdWord} {why : IllegalReason} (h : decode w = .illegal why) :
    Answers w 2 0 :=
  evaluate_of_illegal h

/-- The command ADDR.ADDR answers the discriminant of its variant; only RESP changes. -/
theorem exec_addrAddr (a : Address) (s : State) :
    exec (.addrAddr a) s = .next { s with resp := { status := 0, data := zext32 a.disc } } :=
  answerByte_eq a.disc s

/-- A word that decodes to ADDR.ADDR answers the discriminant of its variant. -/
theorem answers_of_addrAddr {w : CmdWord} {a : Address} (h : decode w = .instr (.addrAddr a)) :
    Answers w 0 (zext32 a.disc) := fun s =>
  (evaluate_of_instr h s).trans (exec_addrAddr a _)

/-- With an OPERAND that is neither bus address, ADDR.ADDR decodes to no instruction. -/
theorem decode_addrAddr_of_ne {x : Byte} (hp : x ≠ 0x68) (hs : x ≠ 0x69) :
    decode (0x60#8 ++ x) = .illegal .operandNotVariant := by
  have hne : ∀ a ∈ addressSet.variants, addressSet.disc a ≠ x
    | .primary, _ => hp.symm
    | .secondary, _ => hs.symm
  calc decode (0x60#8 ++ x)
      = decodePair .addr .addr x := decode_append (by decide) x
    _ = .illegal .operandNotVariant := decodeVariantOperand_of_forall_ne .addrAddr hne

/-- Settles O32: ADDR.ADDR answers its variant's discriminant, which is the bus address, and the two
discriminants are the only OPERANDs it decodes. -/
theorem addressAnswersTheBusAddress : Obligations.AddressAnswersTheBusAddress :=
  ⟨fun s => ⟨exec_addrAddr .primary s, exec_addrAddr .secondary s⟩,
    answers_of_addrAddr (a := .primary) (by decide), answers_of_addrAddr (a := .secondary) (by decide),
    fun _ hp hs => answers_of_illegal (decode_addrAddr_of_ne hp hs)⟩

end Machine
end Sys2Proof

/-! ### The commands without an operand: MASK and DFLT (spec 30_encoding R58, CMD16-N) -/

namespace Sys2Proof.Machine

section
variable {op : Op} {set : SetId} {i : Instr} {high : Byte}

/-- A command of the form without an operand, its OPERAND 0x00, answers what its instruction answers. -/
theorem answers_of_decodeNoOperand {d : Data} (hpair : decodePair op set = decodeNoOperand i)
    (hexec : ∀ s : State, exec i s = .next { s with resp := { status := 0, data := d } }) :
    Answers (cmdWord op set 0) 0 d := fun s =>
  have hdec : decode (cmdWord op set 0) = .instr i := by rw [decode_cmdWord, hpair, decodeNoOperand, if_pos rfl]
  (evaluate_of_instr hdec s).trans (hexec _)

/-- A command of the form without an operand is refused with any other OPERAND. -/
theorem answers_of_decodeNoOperand_of_ne {x : Byte} (hhigh : (op.code ++ set.code : Byte) = high)
    (hpair : decodePair op set = decodeNoOperand i) (hx : x ≠ 0) : Answers (high ++ x) 2 0 :=
  answers_of_illegal (by rw [decode_append hhigh, hpair, decodeNoOperand, if_neg hx])

end

/-- The MASK instruction of a register-field set. -/
def maskInstr : RegSet → Instr
  | .arange => .maskArange
  | .grange => .maskGrange
  | .pwr => .maskPwr
  | .aodr => .maskAodr
  | .godr => .maskGodr
  | .abw => .maskAbw
  | .gbw => .maskGbw

theorem decodePair_mask (f : RegSet) : decodePair .mask (regSetId f) = decodeNoOperand (maskInstr f) := by
  cases f <;> rfl

/-- MASK answers the mask of its set; only RESP changes. -/
theorem exec_maskInstr (f : RegSet) (s : State) :
    exec (maskInstr f) s = .next { s with resp := { status := 0, data := zext32 (regMask f) } } := by
  cases f <;> exact answerByte_eq _ s

theorem answers_mask (f : RegSet) : Answers (cmdWord .mask (regSetId f) 0) 0 (zext32 (regMask f)) :=
  answers_of_decodeNoOperand (decodePair_mask f) (exec_maskInstr f)

theorem answers_mask_of_ne (f : RegSet) {high x : Byte} (hx : x ≠ 0)
    (hhigh : (Op.mask.code ++ (regSetId f).code : Byte) = high := by decide) : Answers (high ++ x) 2 0 :=
  answers_of_decodeNoOperand_of_ne hhigh (decodePair_mask f) hx

/-- Settles O15: the instruction and the command of each set answer the mask of R17. -/
theorem maskAnswersTheFieldMask : Obligations.MaskAnswersTheFieldMask :=
  ⟨fun s => ⟨exec_maskInstr .arange s, exec_maskInstr .grange s, exec_maskInstr .pwr s, exec_maskInstr .aodr s,
      exec_maskInstr .godr s, exec_maskInstr .abw s, exec_maskInstr .gbw s⟩,
    answers_mask .arange, answers_mask .grange, answers_mask .pwr, answers_mask .aodr, answers_mask .godr,
    answers_mask .abw, answers_mask .gbw,
    fun _ hx => ⟨answers_mask_of_ne .arange hx, answers_mask_of_ne .grange hx, answers_mask_of_ne .pwr hx,
      answers_mask_of_ne .aodr hx, answers_mask_of_ne .godr hx, answers_mask_of_ne .abw hx,
      answers_mask_of_ne .gbw hx⟩⟩

/-- The DFLT instruction of a register-field set. -/
def dfltInstr : RegSet → Instr
  | .arange => .dfltArange
  | .grange => .dfltGrange
  | .pwr => .dfltPwr
  | .aodr => .dfltAodr
  | .godr => .dfltGodr
  | .abw => .dfltAbw
  | .gbw => .dfltGbw

theorem decodePair_dflt (f : RegSet) : decodePair .dflt (regSetId f) = decodeNoOperand (dfltInstr f) := by
  cases f <;> rfl

/-- DFLT answers the identifier of its set's default variant; only RESP changes. -/
theorem exec_dfltInstr (f : RegSet) (s : State) :
    exec (dfltInstr f) s = .next { s with resp := { status := 0, data := zext32 (regDefault f) } } := by
  cases f <;> exact answerDefault_eq _ s

theorem answers_dflt (f : RegSet) : Answers (cmdWord .dflt (regSetId f) 0) 0 (zext32 (regDefault f)) :=
  answers_of_decodeNoOperand (decodePair_dflt f) (exec_dfltInstr f)

theorem answers_dflt_of_ne (f : RegSet) {high x : Byte} (hx : x ≠ 0)
    (hhigh : (Op.dflt.code ++ (regSetId f).code : Byte) = high := by decide) : Answers (high ++ x) 2 0 :=
  answers_of_decodeNoOperand_of_ne hhigh (decodePair_dflt f) hx

/-- Settles O29: the defaults are those of R137, and the instruction and the command of each set answer the
default's identifier. -/
theorem defaultAnswersTheResetVariant : Obligations.DefaultAnswersTheResetVariant :=
  ⟨⟨rfl, rfl, rfl, rfl, rfl⟩,
    fun s => ⟨exec_dfltInstr .arange s, exec_dfltInstr .grange s, exec_dfltInstr .pwr s, exec_dfltInstr .aodr s,
      exec_dfltInstr .godr s⟩,
    answers_dflt .arange, answers_dflt .grange, answers_dflt .pwr, answers_dflt .aodr, answers_dflt .godr,
    fun _ hx => ⟨answers_dflt_of_ne .arange hx, answers_dflt_of_ne .grange hx, answers_dflt_of_ne .pwr hx,
      answers_dflt_of_ne .aodr hx, answers_dflt_of_ne .godr hx⟩⟩

end Sys2Proof.Machine

/-! ### The ENC command of a register-field set (spec 30_encoding R45, R58; 40_field_abstraction R67) -/

namespace Sys2Proof.Machine

/-- The ENC command of a register-field set reads its OPERAND as a variant of a field set of the same
discriminants and shift, and its instruction answers that variant's encoding. -/
theorem decodePair_enc (f : RegSet) :
    ∃ (V : Type) (F : FieldSet V) (enc : V → Instr), F.variants.map F.disc = regDiscs f ∧ F.shift = regShift f ∧
      decodePair .enc (regSetId f) = decodeVariantOperand F.toVariantSet enc ∧
      ∀ v s, exec (enc v) s = answerByte (encodeField F v) s := by
  cases f with
  | arange => exact ⟨_, accelRangeField, .encArange, rfl, rfl, rfl, fun _ _ => rfl⟩
  | grange => exact ⟨_, gyroRangeField, .encGrange, rfl, rfl, rfl, fun _ _ => rfl⟩
  | pwr => exact ⟨_, powerModeField, .encPwr, rfl, rfl, rfl, fun _ _ => rfl⟩
  | aodr => exact ⟨_, accelOdrField, .encAodr, rfl, rfl, rfl, fun _ _ => rfl⟩
  | godr => exact ⟨_, gyroOdrField, .encGodr, rfl, rfl, rfl, fun _ _ => rfl⟩
  | abw => exact ⟨_, accelBwField, .encAbw, rfl, rfl, rfl, fun _ _ => rfl⟩
  | gbw => exact ⟨_, gyroBwField, .encGbw, rfl, rfl, rfl, fun _ _ => rfl⟩

/-- The discriminants of a table are the bytes `lookup` finds. -/
theorem exists_lookup_iff_mem {V : Type} {S : VariantSet V} {x : Byte} :
    (∃ v, lookup S x = some v) ↔ x ∈ S.variants.map S.disc := by
  rw [← Option.ne_none_iff_exists', ne_eq, lookup_eq_none_iff]
  simp

/-- An ENC command whose OPERAND is a discriminant of the set answers that OPERAND shifted to the field. -/
theorem answers_enc_of_mem {f : RegSet} {high x : Byte} (hx : x ∈ regDiscs f)
    (hhigh : (Op.enc.code ++ (regSetId f).code : Byte) = high := by decide) :
    Answers (high ++ x) 0 (zext32 (x <<< regShift f)) := by
  obtain ⟨V, F, enc, hdiscs, hshift, hpair, hexec⟩ := decodePair_enc f
  obtain ⟨v, hv⟩ := exists_lookup_iff_mem.mpr (hdiscs ▸ hx)
  have hdec : decode (high ++ x) = .instr (enc v) := by
    rw [decode_append hhigh, hpair, decodeVariantOperand, hv]
  intro s
  rw [evaluate_of_instr hdec, hexec, encodeField, disc_of_lookup hv, hshift, answerByte_eq]

/-- An ENC command whose OPERAND is no discriminant of the set is refused. -/
theorem answers_enc_of_not_mem {f : RegSet} {high x : Byte} (hx : x ∉ regDiscs f)
    (hhigh : (Op.enc.code ++ (regSetId f).code : Byte) = high := by decide) :
    Answers (high ++ x) 2 0 := by
  obtain ⟨V, F, enc, hdiscs, -, hpair, -⟩ := decodePair_enc f
  have hne : ∀ v ∈ F.variants, F.disc v ≠ x := fun v hv hvx =>
    hx (hdiscs ▸ List.mem_map.mpr ⟨v, hv, hvx⟩)
  apply answers_of_illegal
  rw [decode_append hhigh, hpair, decodeVariantOperand_of_forall_ne enc hne]

end Sys2Proof.Machine

/-! ### AccelRange and GyroRange (spec 42_range R81, R82, R86, R87) -/

namespace Sys2Proof.Machine

/-- The discriminants of AccelRange are the codes 0 to 3. -/
theorem mem_regDiscs_arange_iff {x : Byte} : x ∈ regDiscs .arange ↔ x.toNat ≤ 3 := by
  simp only [regDiscs, accelRangeField, AccelRange.disc, List.map, List.mem_cons, List.not_mem_nil,
    or_false, ← BitVec.toNat_inj, BitVec.ofNat_eq_ofNat, BitVec.toNat_ofNat]
  omega

/-- GyroRange has the discriminants of AccelRange. -/
theorem mem_regDiscs_grange_iff {x : Byte} : x ∈ regDiscs .grange ↔ x.toNat ≤ 3 :=
  mem_regDiscs_arange_iff

/-- ENC.ARANGE answers the discriminant in bits 6:5; only RESP changes. -/
theorem exec_encArange (v : AccelRange) (s : State) :
    exec (.encArange v) s = .next { s with resp := { status := 0, data := zext32 (v.disc <<< 5) } } :=
  answerByte_eq _ s

/-- ENC.GRANGE answers the discriminant in bits 6:5; only RESP changes. -/
theorem exec_encGrange (v : GyroRange) (s : State) :
    exec (.encGrange v) s = .next { s with resp := { status := 0, data := zext32 (v.disc <<< 5) } } :=
  answerByte_eq _ s

/-- Settles O16: both sets shift their discriminant by 5, and their discriminants are the codes 0 to 3. -/
theorem encodeOfRangesAnswersBits6To5 : Obligations.EncodeOfRangesAnswersBits6To5 := by
  refine ⟨fun s => ⟨exec_encArange .g16 s, exec_encArange .g8 s, exec_encArange .g4 s, exec_encArange .g2 s,
    exec_encGrange .deg2000 s, exec_encGrange .deg1000 s, exec_encGrange .deg500 s, exec_encGrange .deg250 s⟩,
    fun x => ⟨fun hle => ?_, fun hgt => ?_⟩⟩
  · exact ⟨answers_enc_of_mem (f := .arange) (mem_regDiscs_arange_iff.mpr hle),
      answers_enc_of_mem (f := .grange) (mem_regDiscs_grange_iff.mpr hle)⟩
  · exact ⟨answers_enc_of_not_mem (mt mem_regDiscs_arange_iff.mp hgt.not_ge),
      answers_enc_of_not_mem (mt mem_regDiscs_grange_iff.mp hgt.not_ge)⟩

section
variable {V : Type} {F : FieldSet V} {x : Byte}

/-- Where `lookup` undoes the discriminant, a variant decodes from its discriminant. -/
theorem decodeField_disc (hF : ∀ v, lookup F.toVariantSet (F.disc v) = some v) (v : V) :
    decodeField F (F.disc v) = .ok v :=
  (decodeField_eq_ok_iff hF).mpr rfl

/-- A decode of a discriminant of the table answers that discriminant. -/
theorem answerDecode_of_mem (hx : x ∈ F.variants.map F.disc) (s : State) :
    answerDecode F x s = .next { s with resp := { status := 0, data := zext32 x } } := by
  obtain ⟨v, hv, hvx⟩ := List.mem_map.mp hx
  obtain ⟨-, -, -, -, hok⟩ | ⟨hnone, -, -⟩ := answerDecode_cases F x s
  · exact hok
  · exact absurd hvx (hnone v hv)

/-- A decode of any other byte fails with InvalidDiscriminant, and its answer is that failure. -/
theorem decodeField_and_answerDecode_of_not_mem (hx : x ∉ F.variants.map F.disc) (s : State) :
    decodeField F x = .fail .invalidDiscriminant ∧
      answerDecode F x s = .next { s with resp := { status := 1, data := 0 } } := by
  obtain ⟨v, hv, hvx, -, -⟩ | ⟨-, hfail⟩ := answerDecode_cases F x s
  · exact absurd (List.mem_map.mpr ⟨v, hv, hvx⟩) hx
  · exact hfail

end

/-- Settles O20: each code 0 to 3 is the discriminant of the variant it decodes to, and no other byte is a
discriminant of either set. -/
theorem decodeOfRanges : Obligations.DecodeOfRanges := by
  have haccel := decodeField_disc lookup_accelRange_disc
  have hgyro := decodeField_disc lookup_gyroRange_disc
  refine ⟨⟨haccel .g16, haccel .g8, haccel .g4, haccel .g2⟩,
    ⟨hgyro .deg2000, hgyro .deg1000, hgyro .deg500, hgyro .deg250⟩, fun x s hle => ?_, fun x s hgt => ?_,
    fun x => ⟨decode_append (op := .dec) (set := .arange) (by decide) x,
      decode_append (op := .dec) (set := .grange) (by decide) x⟩⟩
  · exact ⟨answerDecode_of_mem (mem_regDiscs_arange_iff.mpr hle) s,
      answerDecode_of_mem (mem_regDiscs_grange_iff.mpr hle) s⟩
  · obtain ⟨hfailA, hexecA⟩ := decodeField_and_answerDecode_of_not_mem (F := accelRangeField)
      (mt mem_regDiscs_arange_iff.mp hgt.not_ge) s
    obtain ⟨hfailG, hexecG⟩ := decodeField_and_answerDecode_of_not_mem (F := gyroRangeField)
      (mt mem_regDiscs_grange_iff.mp hgt.not_ge) s
    exact ⟨hfailA, hfailG, hexecA, hexecG⟩

end Sys2Proof.Machine

/-! ### PowerMode (spec 43_power_mode R91, R92) -/

namespace Sys2Proof.Machine

/-- The discriminants of PowerMode are the seven legal codes of R91, which lists them in rising order. -/
theorem mem_regDiscs_pwr_iff {x : Byte} : x ∈ regDiscs .pwr ↔ x ∈ [0, 2, 3, 4, 12, 15, 16] :=
  have hperm : (regDiscs .pwr).Perm [0, 2, 3, 4, 12, 15, 16] := by decide
  hperm.mem_iff

/-- PowerMode's field starts at bit 0: ENC.PWR answers the discriminant unshifted; only RESP changes. -/
theorem exec_encPwr (v : PowerMode) (s : State) :
    exec (.encPwr v) s = .next { s with resp := { status := 0, data := zext32 v.disc } } :=
  have hshift : encodeField powerModeField v = v.disc := BitVec.shiftLeft_zero v.disc
  (answerByte_eq _ s).trans (by rw [hshift])

/-- Settles O17: the set shifts its discriminant by 0, and its discriminants are the seven legal codes. -/
theorem encodeOfPowerModeAnswersItsFiveBits : Obligations.EncodeOfPowerModeAnswersItsFiveBits := by
  refine ⟨fun s => ⟨exec_encPwr .sleep s, exec_encPwr .standby s, exec_encPwr .accelLowPower s,
    exec_encPwr .accelLowNoise s, exec_encPwr .gyroLowNoise s, exec_encPwr .sixAxisLowNoise s,
    exec_encPwr .idle s⟩, fun x => ⟨fun hlegal => ?_, fun hillegal => ?_⟩⟩
  · have hshift : x <<< regShift .pwr = x := BitVec.shiftLeft_zero x
    have henc : Answers (0x13#8 ++ x) 0 (zext32 (x <<< regShift .pwr)) :=
      answers_enc_of_mem (mem_regDiscs_pwr_iff.mpr hlegal)
    rwa [hshift] at henc
  · exact answers_enc_of_not_mem (mt mem_regDiscs_pwr_iff.mp hillegal)

/-- Settles O21: each legal code is the discriminant of the mode it decodes to, and no other byte is a
discriminant of the set. -/
theorem decodeOfPowerMode : Obligations.DecodeOfPowerMode := by
  have hmode := decodeField_disc lookup_powerMode_disc
  refine ⟨⟨hmode .sleep, hmode .standby, hmode .accelLowPower, hmode .accelLowNoise, hmode .gyroLowNoise,
    hmode .sixAxisLowNoise, hmode .idle⟩, fun x s hlegal => ?_, fun x s hillegal => ?_,
    decode_append (op := .dec) (set := .pwr) (by decide)⟩
  · exact answerDecode_of_mem (mem_regDiscs_pwr_iff.mpr hlegal) s
  · exact decodeField_and_answerDecode_of_not_mem (F := powerModeField)
      (mt mem_regDiscs_pwr_iff.mp hillegal) s

end Sys2Proof.Machine

/-! ### Commands with a variant operand (spec 30_encoding R58, CMD16-V) -/

namespace Sys2Proof.Machine

section
variable {V : Type} {S : VariantSet V} {op : Op} {set : SetId} {i : V → Instr} {high : Byte}

/-- A command of the form with a variant operand, its OPERAND a variant's discriminant, answers what that
variant's instruction answers. -/
theorem answers_of_decodeVariantOperand {v : V} {d : Data} (hhigh : (op.code ++ set.code : Byte) = high)
    (hpair : decodePair op set = decodeVariantOperand S i) (hv : lookup S (S.disc v) = some v)
    (hexec : ∀ s : State, exec (i v) s = .next { s with resp := { status := 0, data := d } }) :
    Answers (high ++ S.disc v) 0 d := fun s =>
  have hdec : decode (high ++ S.disc v) = .instr (i v) := by
    rw [decode_append hhigh, hpair, decodeVariantOperand, hv]
  (evaluate_of_instr hdec s).trans (hexec _)

/-- A command of the form with a variant operand is refused when its OPERAND is no variant's discriminant. -/
theorem answers_of_decodeVariantOperand_of_not_mem {x : Byte} (hhigh : (op.code ++ set.code : Byte) = high)
    (hpair : decodePair op set = decodeVariantOperand S i) (hx : x ∉ S.variants.map S.disc) :
    Answers (high ++ x) 2 0 := by
  have hne : ∀ v ∈ S.variants, S.disc v ≠ x := fun v hv hvx => hx (List.mem_map.mpr ⟨v, hv, hvx⟩)
  apply answers_of_illegal
  rw [decode_append hhigh, hpair, decodeVariantOperand_of_forall_ne i hne]

end

/-- A set whose field starts at bit 0 encodes a variant as its discriminant. -/
theorem encodeField_of_shift_eq_zero {V : Type} {F : FieldSet V} (h : F.shift = 0) (v : V) :
    encodeField F v = F.disc v := by
  rw [encodeField, h, BitVec.shiftLeft_zero]

/-- Where the field starts at bit 0, an ENC command whose OPERAND is a discriminant answers that OPERAND. -/
theorem answers_enc_of_mem_of_shift_eq_zero {f : RegSet} {high x : Byte} (hx : x ∈ regDiscs f)
    (hshift : regShift f = 0) (hhigh : (Op.enc.code ++ (regSetId f).code : Byte) = high := by decide) :
    Answers (high ++ x) 0 (zext32 x) := by
  have henc := answers_enc_of_mem hx hhigh
  rwa [hshift, BitVec.shiftLeft_zero] at henc

end Sys2Proof.Machine

/-! ### AccelOdr and GyroOdr (spec 44_odr R97 to R99, R102 to R104) -/

namespace Sys2Proof.Machine

/-- The discriminants of AccelOdr are the codes 5 to 15. -/
theorem mem_regDiscs_aodr_iff {x : Byte} : x ∈ regDiscs .aodr ↔ 5 ≤ x.toNat ∧ x.toNat ≤ 15 := by
  simp only [regDiscs, accelOdrField, AccelOdr.disc, List.map, List.mem_cons, List.not_mem_nil,
    or_false, ← BitVec.toNat_inj, BitVec.ofNat_eq_ofNat, BitVec.toNat_ofNat]
  omega

/-- The discriminants of GyroOdr are the codes 5 to 12: it lacks 13, 14 and 15. -/
theorem mem_regDiscs_godr_iff {x : Byte} : x ∈ regDiscs .godr ↔ 5 ≤ x.toNat ∧ x.toNat ≤ 12 := by
  simp only [regDiscs, gyroOdrField, GyroOdr.disc, List.map, List.mem_cons, List.not_mem_nil,
    or_false, ← BitVec.toNat_inj, BitVec.ofNat_eq_ofNat, BitVec.toNat_ofNat]
  omega

theorem not_mem_regDiscs_aodr {x : Byte} (hx : x.toNat < 5 ∨ 15 < x.toNat) : x ∉ regDiscs .aodr := by
  rw [mem_regDiscs_aodr_iff]
  omega

theorem not_mem_regDiscs_godr {x : Byte} (hx : x.toNat < 5 ∨ 12 < x.toNat) : x ∉ regDiscs .godr := by
  rw [mem_regDiscs_godr_iff]
  omega

/-- ENC.AODR answers the discriminant unshifted; only RESP changes. -/
theorem exec_encAodr (v : AccelOdr) (s : State) :
    exec (.encAodr v) s = .next { s with resp := { status := 0, data := zext32 v.disc } } :=
  have hshift : encodeField accelOdrField v = v.disc := encodeField_of_shift_eq_zero rfl v
  (answerByte_eq _ s).trans (by rw [hshift])

/-- ENC.GODR answers the discriminant unshifted; only RESP changes. -/
theorem exec_encGodr (v : GyroOdr) (s : State) :
    exec (.encGodr v) s = .next { s with resp := { status := 0, data := zext32 v.disc } } :=
  have hshift : encodeField gyroOdrField v = v.disc := encodeField_of_shift_eq_zero rfl v
  (answerByte_eq _ s).trans (by rw [hshift])

/-- Settles O18: both sets shift their discriminant by 0, and their discriminants are the codes 5 to 15 and
5 to 12. -/
theorem encodeOfOdrsAnswersTheCode : Obligations.EncodeOfOdrsAnswersTheCode := by
  refine ⟨fun s => ⟨exec_encAodr .hz1600 s, exec_encAodr .hz800 s, exec_encAodr .hz400 s, exec_encAodr .hz200 s,
    exec_encAodr .hz100 s, exec_encAodr .hz50 s, exec_encAodr .hz25 s, exec_encAodr .hz12_5 s,
    exec_encAodr .hz6_25 s, exec_encAodr .hz3_125 s, exec_encAodr .hz1_5625 s,
    exec_encGodr .hz1600 s, exec_encGodr .hz800 s, exec_encGodr .hz400 s, exec_encGodr .hz200 s,
    exec_encGodr .hz100 s, exec_encGodr .hz50 s, exec_encGodr .hz25 s, exec_encGodr .hz12_5 s⟩,
    fun x => ⟨fun hlegal => ?_, fun hillegal => ?_, fun hlegal => ?_, fun hillegal => ?_⟩⟩
  · exact answers_enc_of_mem_of_shift_eq_zero (mem_regDiscs_aodr_iff.mpr hlegal) rfl
  · exact answers_enc_of_not_mem (not_mem_regDiscs_aodr hillegal)
  · exact answers_enc_of_mem_of_shift_eq_zero (mem_regDiscs_godr_iff.mpr hlegal) rfl
  · exact answers_enc_of_not_mem (not_mem_regDiscs_godr hillegal)

/-- Settles O22: each legal code is the discriminant of the rate it decodes to, and no other byte is a
discriminant of the set. -/
theorem decodeOfOdrs : Obligations.DecodeOfOdrs := by
  have haccel := decodeField_disc lookup_accelOdr_disc
  have hgyro := decodeField_disc lookup_gyroOdr_disc
  refine ⟨⟨haccel .hz1600, haccel .hz800, haccel .hz400, haccel .hz200, haccel .hz100, haccel .hz50,
      haccel .hz25, haccel .hz12_5, haccel .hz6_25, haccel .hz3_125, haccel .hz1_5625⟩,
    ⟨hgyro .hz1600, hgyro .hz800, hgyro .hz400, hgyro .hz200, hgyro .hz100, hgyro .hz50, hgyro .hz25,
      hgyro .hz12_5⟩,
    fun x s => ⟨fun hlegal => ?_, fun hillegal => ?_, fun hlegal => ?_, fun hillegal => ?_⟩,
    fun x => ⟨decode_append (op := .dec) (set := .aodr) (by decide) x,
      decode_append (op := .dec) (set := .godr) (by decide) x⟩⟩
  · exact answerDecode_of_mem (mem_regDiscs_aodr_iff.mpr hlegal) s
  · exact decodeField_and_answerDecode_of_not_mem (F := accelOdrField) (not_mem_regDiscs_aodr hillegal) s
  · exact answerDecode_of_mem (mem_regDiscs_godr_iff.mpr hlegal) s
  · exact decodeField_and_answerDecode_of_not_mem (F := gyroOdrField) (not_mem_regDiscs_godr hillegal) s

/-- Halving 1600 up to ten times loses nothing in binary32: in units of 2^-149, the pattern of `1600 / 2^k`
times `2^k` is 1600. -/
theorem f32Units_f32OfRatio_1600_mul_two_pow :
    ∀ k < 11, f32Units (f32OfRatio 1600 (2 ^ k)).toNat * 2 ^ k = 1600 * 2 ^ 149 := by
  decide

/-- The decimal constant of each accelerometer rate denotes `1600 / 2^(disc - 5)`. -/
theorem accelOdrHz_eq (v : AccelOdr) : accelOdrHz v = f32OfRatio 1600 (2 ^ (v.disc.toNat - 5)) := by
  cases v <;> decide

/-- The decimal constant of each gyroscope rate denotes `1600 / 2^(disc - 5)`. -/
theorem gyroOdrHz_eq (v : GyroOdr) : gyroOdrHz v = f32OfRatio 1600 (2 ^ (v.disc.toNat - 5)) := by
  cases v <;> decide

theorem accelOdr_halvings_lt (v : AccelOdr) : v.disc.toNat - 5 < 11 := by
  cases v <;> decide

theorem gyroOdr_halvings_lt (v : GyroOdr) : v.disc.toNat - 5 < 11 := by
  cases v <;> decide

/-- FREQ.AODR answers the pattern of the rate; only RESP changes. -/
theorem exec_freqAodr (v : AccelOdr) (s : State) :
    exec (.freqAodr v) s = .next { s with resp := { status := 0, data := accelOdrHz v } } :=
  answerF32_eq _ s

/-- FREQ.GODR answers the pattern of the rate; only RESP changes. -/
theorem exec_freqGodr (v : GyroOdr) (s : State) :
    exec (.freqGodr v) s = .next { s with resp := { status := 0, data := gyroOdrHz v } } :=
  answerF32_eq _ s

theorem answers_freqAodr (v : AccelOdr) : Answers (0x44#8 ++ v.disc) 0 (accelOdrHz v) :=
  answers_of_decodeVariantOperand (S := accelOdrField.toVariantSet) (op := .freq) (set := .aodr) (by decide) rfl
    (lookup_accelOdr_disc v) (exec_freqAodr v)

theorem answers_freqGodr (v : GyroOdr) : Answers (0x45#8 ++ v.disc) 0 (gyroOdrHz v) :=
  answers_of_decodeVariantOperand (S := gyroOdrField.toVariantSet) (op := .freq) (set := .godr) (by decide) rfl
    (lookup_gyroOdr_disc v) (exec_freqGodr v)

/-- Settles O26: every rate is 1600 halved at most ten times, each of which is exact, and an OPERAND that is
no discriminant of the set is refused. -/
theorem frequencyOfOdrsIsExact : Obligations.FrequencyOfOdrsIsExact := by
  refine ⟨fun v s => ⟨accelOdrHz v, exec_freqAodr v s, accelOdrHz_eq v, ?_, answers_freqAodr v⟩,
    fun v s => ⟨gyroOdrHz v, exec_freqGodr v s, gyroOdrHz_eq v, ?_, answers_freqGodr v⟩,
    answers_freqAodr .hz1_5625, answers_freqGodr .hz800, fun x => ⟨fun hillegal => ?_, fun hillegal => ?_⟩⟩
  · rw [accelOdrHz_eq]
    exact f32Units_f32OfRatio_1600_mul_two_pow _ (accelOdr_halvings_lt v)
  · rw [gyroOdrHz_eq]
    exact f32Units_f32OfRatio_1600_mul_two_pow _ (gyroOdr_halvings_lt v)
  · exact answers_of_decodeVariantOperand_of_not_mem (op := .freq) (set := .aodr) (by decide) rfl
      (not_mem_regDiscs_aodr hillegal)
  · exact answers_of_decodeVariantOperand_of_not_mem (op := .freq) (set := .godr) (by decide) rfl
      (not_mem_regDiscs_godr hillegal)

end Sys2Proof.Machine

/-! ### The bypass code of AccelBw and GyroBw (spec 45_bandwidth R110, R115, R117) -/

namespace Sys2Proof.Machine

/-- The bypass code reports the pattern of 10000.0 under every choice of the parameters. -/
theorem accelBwHz_hz10000 (c : Config) : accelBwHz c .hz10000 = 0x461C4000 :=
  show f32OfRatio 10000 (10 ^ 0) = 0x461C4000 by decide

/-- The gyroscope's bypass code has the accelerometer's constant. -/
theorem gyroBwHz_hz10000 (c : Config) : gyroBwHz c .hz10000 = 0x461C4000 := accelBwHz_hz10000 c

/-- 10000.0 is exact in binary32. -/
theorem f32Units_10000 : f32Units (0x461C4000 : F32).toNat = 10000 * 2 ^ 149 := by decide

@[simp] theorem accelBwCutoff_hz10000 (c : Config) : accelBwCutoff c .hz10000 = none := rfl

@[simp] theorem gyroBwCutoff_hz10000 (c : Config) : gyroBwCutoff c .hz10000 = none := rfl

theorem accelBwCutoff_of_ne (c : Config) {v : AccelBw} (hv : v ≠ .hz10000) :
    accelBwCutoff c v = some (accelBwHz c v) := by
  cases v with
  | hz10000 => exact absurd rfl hv
  | _ => rfl

theorem gyroBwCutoff_of_ne (c : Config) {v : GyroBw} (hv : v ≠ .hz10000) :
    gyroBwCutoff c v = some (gyroBwHz c v) := by
  cases v with
  | hz10000 => exact absurd rfl hv
  | _ => rfl

/-- Settles O28: the bypass constant does not mention the parameters and is exact, and the cutoff is missing
at that code alone. -/
theorem bypassCodeIsASentinel : Obligations.BypassCodeIsASentinel := fun c =>
  ⟨by rw [accelBwHz_hz10000, f32Units_10000], accelBwCutoff_hz10000 c,
    by rw [gyroBwHz_hz10000, f32Units_10000], gyroBwCutoff_hz10000 c,
    fun _ => accelBwCutoff_of_ne c, fun _ => gyroBwCutoff_of_ne c⟩

end Sys2Proof.Machine

/-! ### Only a decode can fail (spec 60_exceptions R122) -/

namespace Sys2Proof.Machine

/-- Settles O35: an instruction that is no decode is a successful answer, which has STATUS 0 and changes RESP
alone. -/
theorem onlyDecodesFail : Obligations.OnlyDecodesFail := by
  intro i s hop
  obtain ⟨d, hok⟩ := exec_eq_answerOk hop
  exact ⟨d, (hok s).trans (answerOk_eq d s)⟩

end Sys2Proof.Machine

/-! ### The decoder and the legality tables (spec 30_encoding R55 to R63) -/

namespace Sys2Proof

/-- What the decoder may answer for the fields `c` of a word, and what the legality tables then say of `c`: an
instruction with these fields, all of them legal, or a refusal by the name of the check that fails, those before it
having passed. -/
inductive DecodeOutcome (c : Command) : Decoded → Prop where
  | instr (i : Instr) (hcommand : i.command = c) (hlegal : c.wellFormed = true) : DecodeOutcome c (.instr i)
  | reservedOp (hop : 7 ≤ c.op.toNat) : DecodeOutcome c (.illegal .reservedOp)
  | reservedSet (hop : c.op.toNat < 7) (hset : 8 ≤ c.set.toNat) : DecodeOutcome c (.illegal .reservedSet)
  | blankPair (hop : c.op.toNat < 7) (hset : c.set.toNat < 8) (hpair : c.pairLegal = false) :
      DecodeOutcome c (.illegal .blankPair)
  | operandNotZero (hpair : c.pairLegal = true) (hunused : c.unusedOperandZero = false)
      (hvariant : c.variantOperandLegal = true) : DecodeOutcome c (.illegal .operandNotZero)
  | operandNotVariant (hpair : c.pairLegal = true) (hunused : c.unusedOperandZero = true)
      (hvariant : c.variantOperandLegal = false) : DecodeOutcome c (.illegal .operandNotVariant)

theorem op_code_lt (op : Op) : op.code.toNat < 7 := by cases op <;> decide

theorem setId_code_lt (set : SetId) : set.code.toNat < 8 := by cases set <;> decide

theorem le_of_op_ofCode_eq_none : ∀ {c : BitVec 4}, Op.ofCode c = none → 7 ≤ c.toNat := by decide

theorem le_of_setId_ofCode_eq_none : ∀ {c : BitVec 4}, SetId.ofCode c = none → 8 ≤ c.toNat := by decide

theorem Command.wellFormed_iff {c : Command} : c.wellFormed = true ↔
    c.pairLegal = true ∧ c.unusedOperandZero = true ∧ c.variantOperandLegal = true := by
  simp [Command.wellFormed, and_assoc]

/-- The table of R59 marks no reserved OP and no reserved SET. -/
theorem Command.lt_of_pairLegal {c : Command} (h : c.pairLegal = true) : c.op.toNat < 7 ∧ c.set.toNat < 8 := by
  unfold Command.pairLegal at h
  split at h <;> grind

section
variable {op : Op} {set : SetId} {x : Byte}

/-- The outcome of a pair that is blank in the table of R59. -/
theorem blankPair_outcome (hpair : Command.pairLegal ⟨op.code, set.code, x⟩ = false) :
    DecodeOutcome ⟨op.code, set.code, x⟩ (.illegal .blankPair) :=
  .blankPair (op_code_lt op) (setId_code_lt set) hpair

/-- The outcome of a pair without an operand (CMD16-N). -/
theorem decodeNoOperand_outcome {i : Instr} (hcommand : i.command = ⟨op.code, set.code, 0⟩)
    (hpair : Command.pairLegal ⟨op.code, set.code, x⟩ = true)
    (hunused : Command.unusedOperandZero ⟨op.code, set.code, x⟩ = decide (x.toNat = 0))
    (hvariant : Command.variantOperandLegal ⟨op.code, set.code, x⟩ = true) :
    DecodeOutcome ⟨op.code, set.code, x⟩ (decodeNoOperand i x) := by
  by_cases hx : x = 0
  · subst hx
    rw [decodeNoOperand, if_pos rfl]
    exact .instr i hcommand (Command.wellFormed_iff.mpr ⟨hpair, hunused, hvariant⟩)
  · have hne : x.toNat ≠ 0 := fun h => hx (BitVec.eq_of_toNat_eq h)
    rw [decodeNoOperand, if_neg hx]
    exact .operandNotZero hpair (by simp [hunused, hne]) hvariant

/-- The outcome of a pair with a variant operand (CMD16-V): the identifiers WellFormed.lean lists for the set
are its discriminants. -/
theorem decodeVariantOperand_outcome {V : Type} {S : VariantSet V} {i : V → Instr}
    (hlisted : (legalIdentifiers set.code.toNat).Perm ((S.variants.map S.disc).map BitVec.toNat))
    (hcommand : ∀ v, (i v).command = ⟨op.code, set.code, S.disc v⟩)
    (hpair : Command.pairLegal ⟨op.code, set.code, x⟩ = true)
    (hunused : Command.unusedOperandZero ⟨op.code, set.code, x⟩ = true)
    (hvariant : Command.variantOperandLegal ⟨op.code, set.code, x⟩ =
      (legalIdentifiers set.code.toNat).contains x.toNat) :
    DecodeOutcome ⟨op.code, set.code, x⟩ (decodeVariantOperand S i x) := by
  have hfound : Command.variantOperandLegal ⟨op.code, set.code, x⟩ = true ↔ ∃ v, Machine.lookup S x = some v := by
    rw [hvariant, List.contains_iff_mem, hlisted.mem_iff,
      List.mem_map_of_injective fun _ _ => BitVec.eq_of_toNat_eq, Machine.exists_lookup_iff_mem]
  cases hv : Machine.lookup S x with
  | some v =>
    have hcommand : (i v).command = ⟨op.code, set.code, x⟩ := by rw [hcommand, Machine.disc_of_lookup hv]
    rw [decodeVariantOperand, hv]
    exact .instr (i v) hcommand (Command.wellFormed_iff.mpr ⟨hpair, hunused, hfound.mpr ⟨v, hv⟩⟩)
  | none =>
    rw [decodeVariantOperand, hv]
    exact .operandNotVariant hpair hunused (by simpa [hv] using hfound)

end

/-- The outcome of every (OP, SET) pair: the table of R59, one OP at a time. -/
theorem decodePair_outcome (op : Op) (set : SetId) (x : Byte) :
    DecodeOutcome ⟨op.code, set.code, x⟩ (decodePair op set x) := by
  cases op with
  | mask =>
    cases set with
    | addr => exact blankPair_outcome rfl
    | _ => exact decodeNoOperand_outcome rfl rfl rfl rfl
  | enc =>
    cases set with
    | addr => exact blankPair_outcome rfl
    | _ => exact decodeVariantOperand_outcome (by decide) (fun _ => rfl) rfl rfl rfl
  | dec =>
    cases set with
    | addr => exact blankPair_outcome rfl
    | _ => exact .instr _ rfl rfl
  | scale =>
    cases set with
    | arange | grange => exact decodeVariantOperand_outcome (by decide) (fun _ => rfl) rfl rfl rfl
    | _ => exact blankPair_outcome rfl
  | freq =>
    cases set with
    | aodr | godr | abw | gbw => exact decodeVariantOperand_outcome (by decide) (fun _ => rfl) rfl rfl rfl
    | _ => exact blankPair_outcome rfl
  | dflt => cases set <;> exact decodeNoOperand_outcome rfl rfl rfl rfl
  | addr =>
    cases set with
    | addr => exact decodeVariantOperand_outcome (by decide) (fun _ => rfl) rfl rfl rfl
    | _ => exact blankPair_outcome rfl

/-- Everything the decoder can do with the fields of a word. -/
theorem decodeCommand_outcome (c : Command) : DecodeOutcome c (decodeCommand c) := by
  obtain ⟨opCode, setCode, x⟩ := c
  cases hop : Op.ofCode opCode with
  | none =>
    simp only [decodeCommand, hop]
    exact .reservedOp (le_of_op_ofCode_eq_none hop)
  | some op =>
    obtain rfl := op_code_of_ofCode hop
    cases hset : SetId.ofCode setCode with
    | none =>
      simp only [decodeCommand, hop, hset]
      exact .reservedSet (op_code_lt op) (le_of_setId_ofCode_eq_none hset)
    | some set =>
      obtain rfl := setId_code_of_ofCode hset
      simp only [decodeCommand, hop, hset]
      exact decodePair_outcome op set x

/-- A refused word fails a check. -/
theorem DecodeOutcome.wellFormed_of_illegal {c : Command} {why : IllegalReason}
    (h : DecodeOutcome c (.illegal why)) : c.wellFormed = false := by
  rw [← Bool.not_eq_true, Command.wellFormed_iff]
  rintro ⟨hpairLegal, hunusedZero, hvariantLegal⟩
  have hlt := Command.lt_of_pairLegal hpairLegal
  cases h with
  | reservedOp hop => omega
  | reservedSet hop hset => omega
  | blankPair hop hset hpair => exact absurd hpairLegal (by simp [hpair])
  | operandNotZero hpair hunused => exact absurd hunusedZero (by simp [hunused])
  | operandNotVariant hpair hunused hvariant => exact absurd hvariantLegal (by simp [hvariant])

/-- Settles O2: the instruction the decoder answers carries the fields it was decoded from, and the fields give
the word back. -/
theorem decodedWordIsTheEncodedWord : Obligations.DecodedWordIsTheEncodedWord := by
  intro w i hdec
  have hout : DecodeOutcome _ (decode w) := decodeCommand_outcome (Command.ofWord w)
  rw [hdec] at hout
  cases hout with
  | instr _ hcommand => rw [encode, hcommand, command_word_ofWord]

/-- Settles O3: an accepted word passes every check, and a refused one fails one. -/
theorem decoderAcceptsExactlyTheLegalCommands : Obligations.DecoderAcceptsExactlyTheLegalCommands := by
  intro w
  have hout : DecodeOutcome _ (decode w) := decodeCommand_outcome (Command.ofWord w)
  cases hdec : decode w with
  | instr i =>
    rw [hdec] at hout
    cases hout with
    | instr _ _ hlegal => exact ⟨fun _ => hlegal, fun _ => ⟨i, rfl⟩⟩
  | illegal why =>
    rw [hdec] at hout
    simp [hout.wellFormed_of_illegal]

/-- Settles O4: the word has one outcome, and what each clause asks of the fields excludes every other one. -/
theorem decoderNamesTheFirstFailedCheck : Obligations.DecoderNamesTheFirstFailedCheck := by
  intro w c
  have hout : DecodeOutcome c (decode w) := decodeCommand_outcome (Command.ofWord w)
  generalize decode w = d at hout ⊢
  clear_value c
  cases hout <;> grind [Command.lt_of_pairLegal, Command.wellFormed_iff]

/-- Settles O1: the decoder reads the OP, the SET and the OPERAND that the encoder wrote, and an OPERAND that is a
variant's discriminant names that variant. -/
theorem decodeOfEncodeIsTheInstruction : Obligations.DecodeOfEncodeIsTheInstruction := by
  intro i
  have hword : decode (encode i) = decodePair i.op i.setId i.operand := decode_cmdWord i.op i.setId i.operand
  rw [hword]
  cases i with
  | encArange | encGrange | encPwr | encAodr | encGodr | encAbw | encGbw | scaleArange | scaleGrange
  | freqAodr | freqGodr | freqAbw | freqGbw | addrAddr =>
    simp [Instr.op, Instr.setId, Instr.operand, decodePair, decodeVariantOperand]
  | _ => rfl

end Sys2Proof

/-! ### The assembler text of an instruction (spec 30_encoding R65) -/

namespace Sys2Proof.Machine

/-- A stretch of text without a space belongs to the word being read. -/
theorem splitWords_append {text : List Char} (htext : ' ' ∉ text) (run rest : List Char) :
    splitWords run (text ++ rest) = splitWords (run ++ text) rest := by
  induction text generalizing run with
  | nil => simp
  | cons c cs ih =>
    rw [List.mem_cons, not_or] at htext
    obtain ⟨hc, hcs⟩ := htext
    have hread : splitWords run (c :: (cs ++ rest)) = splitWords (run ++ [c]) (cs ++ rest) := by
      simp [splitWords, Ne.symm hc]
    rw [List.cons_append, hread, ih hcs, List.append_assoc, List.singleton_append]

/-- A text without a space is one word. -/
theorem splitWords_word {word : List Char} (hword : ' ' ∉ word) (hne : word ≠ []) :
    splitWords [] word = [word] := by
  have hread := splitWords_append hword [] []
  rw [List.append_nil, List.nil_append] at hread
  simp [hread, splitWords, hne]

/-- A word ends at a space. -/
theorem splitWords_word_space {word : List Char} (hword : ' ' ∉ word) (hne : word ≠ []) (rest : List Char) :
    splitWords [] (word ++ ' ' :: rest) = word :: splitWords [] rest := by
  rw [splitWords_append hword, List.nil_append]
  simp [splitWords, hne]

theorem space_notMem_mnemonic (op : Op) (set : SetId) : ' ' ∉ mnemonic op set := by
  cases op <;> cases set <;> decide

theorem mnemonic_ne_nil (op : Op) (set : SetId) : mnemonic op set ≠ [] := by simp [mnemonic]

/-- No two pairs have one mnemonic. -/
theorem pairOfMnemonic_mnemonic (op : Op) (set : SetId) : pairOfMnemonic (mnemonic op set) = some (op, set) := by
  cases op <;> cases set <;> decide

theorem space_notMem_printByte : ∀ x : Byte, ' ' ∉ printByte x := by decide

theorem parseByte_printByte : ∀ x : Byte, parseByte (printByte x) = some x := by decide

/-- A variant name is one word, and no two variants of a set have one name. -/
theorem variantName_spec (set : SetId) : ∀ p ∈ variantNames set,
    ' ' ∉ p.1.toList ∧ p.1.toList ≠ [] ∧ parseVariant set p.1.toList = some p.2 := by
  cases set <;> decide

/-- No variant name is a number. -/
theorem variantName_ne_printByte (set : SetId) (x : Byte) : ∀ p ∈ variantNames set, p.1.toList ≠ printByte x := by
  have hhead : ∀ p ∈ variantNames set, p.1.toList.head? ≠ some '0' := by cases set <;> decide
  exact fun p hp heq => hhead p hp (by rw [heq]; rfl)

/-- The text of a variant operand, a name or a number, is one word that stands for the OPERAND. -/
theorem exists_variantText (set : SetId) (x : Byte) :
    ∃ text, printOperand .enc set x = ' ' :: text ∧ ' ' ∉ text ∧ text ≠ [] ∧ parseVariant set text = some x := by
  cases hfind : (variantNames set).find? fun p => p.2 == x with
  | some p =>
    have hp : p.2 = x := by simpa using List.find?_some hfind
    obtain ⟨hspace, hne, hname⟩ := variantName_spec set p (List.mem_of_find?_eq_some hfind)
    exact ⟨p.1.toList, by simp only [printOperand, hfind], hspace, hne, hp ▸ hname⟩
  | none =>
    have hnone : (variantNames set).find? (fun p => p.1.toList == printByte x) = none := by
      simpa [List.find?_eq_none] using variantName_ne_printByte set x
    exact ⟨printByte x, by simp only [printOperand, hfind], space_notMem_printByte x, by simp [printByte],
      by simp only [parseVariant, hnone, parseByte_printByte]⟩

/-- A mnemonic followed by one word of operand text is read as these two words. -/
theorem splitWords_mnemonic_space (op : Op) (set : SetId) {text : List Char} (hspace : ' ' ∉ text)
    (hne : text ≠ []) : splitWords [] (mnemonic op set ++ ' ' :: text) = [mnemonic op set, text] := by
  rw [splitWords_word_space (space_notMem_mnemonic op set) (mnemonic_ne_nil op set), splitWords_word hspace hne]

/-- The words of a printed line are its mnemonic and operands that stand for its OPERAND. -/
theorem exists_operands (op : Op) (set : SetId) {x : Byte} (hx : op = .mask ∨ op = .dflt → x = 0) :
    ∃ operands, splitWords [] (mnemonic op set ++ printOperand op set x) = mnemonic op set :: operands ∧
      parseOperand op set operands = some x := by
  cases op with
  | mask | dflt =>
    obtain rfl := hx (by simp)
    refine ⟨[], ?_, rfl⟩
    rw [printOperand, List.append_nil, splitWords_word (space_notMem_mnemonic _ set) (mnemonic_ne_nil _ set)]
  | dec =>
    exact ⟨[printByte x], splitWords_mnemonic_space .dec set (space_notMem_printByte x) (by simp [printByte]),
      parseByte_printByte x⟩
  | enc | scale | freq | addr =>
    obtain ⟨text, hprint, hspace, hne, hparse⟩ := exists_variantText set x
    refine ⟨[text], ?_, hparse⟩
    change splitWords [] (mnemonic _ set ++ printOperand .enc set x) = _
    rw [hprint, splitWords_mnemonic_space _ set hspace hne]

/-- Assembling the printed fields of a command writes the command's word, legal or not. -/
theorem assembleWord_print (op : Op) (set : SetId) {x : Byte} (hx : op = .mask ∨ op = .dflt → x = 0) :
    assembleWord (mnemonic op set ++ printOperand op set x) = some (cmdWord op set x) := by
  obtain ⟨operands, hwords, hoperand⟩ := exists_operands op set hx
  simp only [assembleWord, hwords, pairOfMnemonic_mnemonic, hoperand]

theorem operand_eq_zero {i : Instr} (h : i.op = .mask ∨ i.op = .dflt) : i.operand = 0 := by
  cases i <;> simp_all [Instr.op, Instr.operand]

/-- Settles O6: the printed text writes the instruction's own word, which the decoder reads back. -/
theorem printedTextAssemblesToTheInstruction : Obligations.PrintedTextAssemblesToTheInstruction := by
  intro i
  have hword : assembleWord (printInstr i) = some (encode i) := assembleWord_print i.op i.setId operand_eq_zero
  simp only [assemble, hword, decodeOfEncodeIsTheInstruction i]

end Sys2Proof.Machine

/-! ### The bitfield of a register-field set (spec 10_state R17, R18; 40_field_abstraction R68, R70, R72) -/

namespace Sys2Proof.Machine

/-- A shifted discriminant lies inside its field's mask. -/
theorem shiftLeft_and_regMask {f : RegSet} {x : Byte} (hx : x ∈ regDiscs f) :
    x <<< regShift f &&& regMask f = x <<< regShift f := by
  have htable : (regDiscs f).all (fun x => x <<< regShift f &&& regMask f == x <<< regShift f) = true := by
    cases f <;> decide
  exact eq_of_beq (List.all_eq_true.mp htable x hx)

/-- Preparing a shifted discriminant gives the discriminant back. -/
theorem prepareField_shiftLeft {f : RegSet} {x : Byte} (hx : x ∈ regDiscs f) :
    prepareField f (x <<< regShift f) = x := by
  have htable : (regDiscs f).all (fun x => prepareField f (x <<< regShift f) == x) = true := by cases f <;> decide
  exact eq_of_beq (List.all_eq_true.mp htable x hx)

/-- The shift of a field is the number of trailing zeros of its mask (R10). -/
theorem trailingZeros_regMask (f : RegSet) : trailingZeros (regMask f) = regShift f := by
  cases f <;> decide

/-- `F` is the typed set of the register field `f`: the same discriminants, mask and shift, and `lookup` undoes
its discriminant. -/
structure IsFieldSet {V : Type} (f : RegSet) (F : FieldSet V) : Prop where
  discs : F.variants.map F.disc = regDiscs f
  mask : F.mask = regMask f
  shift : F.shift = regShift f
  lookup_disc : ∀ v, lookup F.toVariantSet (F.disc v) = some v

/-! The typed set of each of the seven fields (R17, R48 to R54). -/

theorem isFieldSet_accelRange : IsFieldSet .arange accelRangeField := ⟨rfl, rfl, rfl, lookup_accelRange_disc⟩
theorem isFieldSet_gyroRange : IsFieldSet .grange gyroRangeField := ⟨rfl, rfl, rfl, lookup_gyroRange_disc⟩
theorem isFieldSet_powerMode : IsFieldSet .pwr powerModeField := ⟨rfl, rfl, rfl, lookup_powerMode_disc⟩
theorem isFieldSet_accelOdr : IsFieldSet .aodr accelOdrField := ⟨rfl, rfl, rfl, lookup_accelOdr_disc⟩
theorem isFieldSet_gyroOdr : IsFieldSet .godr gyroOdrField := ⟨rfl, rfl, rfl, lookup_gyroOdr_disc⟩
theorem isFieldSet_accelBw : IsFieldSet .abw accelBwField := ⟨rfl, rfl, rfl, lookup_accelBw_disc⟩
theorem isFieldSet_gyroBw : IsFieldSet .gbw gyroBwField := ⟨rfl, rfl, rfl, lookup_gyroBw_disc⟩

namespace IsFieldSet

variable {V : Type} {f : RegSet} {F : FieldSet V}

theorem disc_mem (h : IsFieldSet f F) (v : V) : F.disc v ∈ regDiscs f :=
  h.discs ▸ List.mem_map_of_mem (List.mem_of_find?_eq_some (h.lookup_disc v))

/-- An encode result is the shifted discriminant, all of it inside the mask. -/
theorem encodeField_and_mask (h : IsFieldSet f F) (v : V) :
    encodeField F v &&& ~~~ F.mask = 0 ∧ encodeField F v &&& F.mask = F.disc v <<< F.shift := by
  have hinside : encodeField F v &&& F.mask = encodeField F v := by
    rw [encodeField, h.mask, h.shift, shiftLeft_and_regMask (h.disc_mem v)]
  refine ⟨?_, hinside⟩
  calc encodeField F v &&& ~~~ F.mask
      = encodeField F v &&& (F.mask &&& ~~~ F.mask) := by rw [← BitVec.and_assoc, hinside]
    _ = 0 := by rw [BitVec.and_not_self]; exact BitVec.and_zero

/-- Masking and shifting an encode result gives a byte that decodes to the variant. -/
theorem decodeField_prepareField_encodeField (h : IsFieldSet f F) (v : V) :
    decodeField F (prepareField f (encodeField F v)) = .ok v := by
  rw [encodeField, h.shift, prepareField_shiftLeft (h.disc_mem v), decodeField_disc h.lookup_disc]

end IsFieldSet

/-- Settles O9: in each set the shifted discriminants lie inside the mask. -/
theorem encodeStaysInsideItsMask : Obligations.EncodeStaysInsideItsMask :=
  ⟨isFieldSet_accelRange.encodeField_and_mask, isFieldSet_gyroRange.encodeField_and_mask,
    isFieldSet_powerMode.encodeField_and_mask, isFieldSet_accelOdr.encodeField_and_mask,
    isFieldSet_gyroOdr.encodeField_and_mask, isFieldSet_accelBw.encodeField_and_mask,
    isFieldSet_gyroBw.encodeField_and_mask⟩

/-- Settles O10: in each set a shifted discriminant, prepared for a decode, is the discriminant again. -/
theorem decodeOfEncodedFieldIsTheVariant : Obligations.DecodeOfEncodedFieldIsTheVariant :=
  ⟨isFieldSet_accelRange.decodeField_prepareField_encodeField,
    isFieldSet_gyroRange.decodeField_prepareField_encodeField,
    isFieldSet_powerMode.decodeField_prepareField_encodeField,
    isFieldSet_accelOdr.decodeField_prepareField_encodeField,
    isFieldSet_gyroOdr.decodeField_prepareField_encodeField,
    isFieldSet_accelBw.decodeField_prepareField_encodeField,
    isFieldSet_gyroBw.decodeField_prepareField_encodeField⟩

/-- Settles O14: no discriminant is above its field's largest value, and a DEC command of any other byte fails. -/
theorem decodeRejectsInputsWiderThanTheField : Obligations.DecodeRejectsInputsWiderThanTheField := by
  refine ⟨fun f x hwide => answers_dec_of_not_mem fun hx => ?_, by decide, by decide⟩
  exact absurd (le_regMax_of_mem_regDiscs f x hx) (Nat.not_le_of_lt hwide)

/-- The number of bits of a field. -/
def fieldWidth : RegSet → Nat
  | .arange | .grange => 2
  | .pwr => 5
  | .aodr | .godr => 4
  | .abw | .gbw => 3

/-- Each mask is a run of ones of the field's width, moved up to its shift. -/
theorem regMask_toNat (f : RegSet) : (regMask f).toNat = (2 ^ fieldWidth f - 1) * 2 ^ regShift f := by
  cases f <;> decide

/-- Settles O11: each mask is its field's width of ones above as many zeros as its shift. -/
theorem descriptorsAreContiguousMasks : Obligations.DescriptorsAreContiguousMasks :=
  ⟨by decide, by decide, by decide, by decide, by decide, by decide, by decide,
    fun f => ⟨trailingZeros_regMask f, fieldWidth f, regMask_toNat f⟩⟩

/-- Settles O12: the masks 0x60, 0x1F, 0x0F and 0x07 of R17, intersected. -/
theorem maskDisjointnessTable : Obligations.MaskDisjointnessTable := by
  unfold Obligations.MaskDisjointnessTable
  decide

/-- Settles O31: the discriminant of each default, shifted to its field. -/
theorem defaultsEncodeToTheResetField : Obligations.DefaultsEncodeToTheResetField := by
  unfold Obligations.DefaultsEncodeToTheResetField
  decide

end Sys2Proof.Machine

/-! ### AccelBw and GyroBw (spec 45_bandwidth R108 to R116) -/

namespace Sys2Proof.Machine

/-- The discriminants of AccelBw are the codes 0 to 7. -/
theorem mem_regDiscs_abw_iff {x : Byte} : x ∈ regDiscs .abw ↔ x.toNat ≤ 7 := by
  simp only [regDiscs, accelBwField, AccelBw.disc, List.map, List.mem_cons, List.not_mem_nil,
    or_false, ← BitVec.toNat_inj, BitVec.ofNat_eq_ofNat, BitVec.toNat_ofNat]
  omega

/-- GyroBw has the discriminants of AccelBw. -/
theorem mem_regDiscs_gbw_iff {x : Byte} : x ∈ regDiscs .gbw ↔ x.toNat ≤ 7 :=
  mem_regDiscs_abw_iff

theorem not_mem_regDiscs_abw {x : Byte} (hx : 7 < x.toNat) : x ∉ regDiscs .abw :=
  mt mem_regDiscs_abw_iff.mp hx.not_ge

theorem not_mem_regDiscs_gbw {x : Byte} (hx : 7 < x.toNat) : x ∉ regDiscs .gbw :=
  mt mem_regDiscs_gbw_iff.mp hx.not_ge

/-- ENC.ABW answers the discriminant unshifted; only RESP changes. -/
theorem exec_encAbw (v : AccelBw) (s : State) :
    exec (.encAbw v) s = .next { s with resp := { status := 0, data := zext32 v.disc } } :=
  have hshift : encodeField accelBwField v = v.disc := encodeField_of_shift_eq_zero rfl v
  (answerByte_eq _ s).trans (by rw [hshift])

/-- ENC.GBW answers the discriminant unshifted; only RESP changes. -/
theorem exec_encGbw (v : GyroBw) (s : State) :
    exec (.encGbw v) s = .next { s with resp := { status := 0, data := zext32 v.disc } } :=
  have hshift : encodeField gyroBwField v = v.disc := encodeField_of_shift_eq_zero rfl v
  (answerByte_eq _ s).trans (by rw [hshift])

/-- Settles O19: both sets shift their discriminant by 0, and their discriminants are the codes 0 to 7. -/
theorem encodeOfBandwidthsAnswersTheCode : Obligations.EncodeOfBandwidthsAnswersTheCode := by
  refine ⟨fun s => ⟨exec_encAbw .hz10000 s, exec_encAbw .hz180 s, exec_encAbw .hz121 s, exec_encAbw .hz73 s,
    exec_encAbw .hz53 s, exec_encAbw .hz34 s, exec_encAbw .hz25 s, exec_encAbw .hz16 s,
    exec_encGbw .hz10000 s, exec_encGbw .hz180 s, exec_encGbw .hz121 s, exec_encGbw .hz73 s,
    exec_encGbw .hz53 s, exec_encGbw .hz34 s, exec_encGbw .hz25 s, exec_encGbw .hz16 s⟩,
    fun x => ⟨fun hle => ?_, fun hgt => ?_⟩⟩
  · exact ⟨answers_enc_of_mem_of_shift_eq_zero (mem_regDiscs_abw_iff.mpr hle) rfl,
      answers_enc_of_mem_of_shift_eq_zero (mem_regDiscs_gbw_iff.mpr hle) rfl⟩
  · exact ⟨answers_enc_of_not_mem (not_mem_regDiscs_abw hgt), answers_enc_of_not_mem (not_mem_regDiscs_gbw hgt)⟩

/-- Settles O23: each code 0 to 7 is the discriminant of the variant it decodes to, and no other byte is a
discriminant of either set. -/
theorem decodeOfBandwidths : Obligations.DecodeOfBandwidths := by
  have haccel := decodeField_disc lookup_accelBw_disc
  have hgyro := decodeField_disc lookup_gyroBw_disc
  refine ⟨⟨haccel .hz10000, haccel .hz180, haccel .hz121, haccel .hz73, haccel .hz53, haccel .hz34, haccel .hz25,
      haccel .hz16⟩,
    ⟨hgyro .hz10000, hgyro .hz180, hgyro .hz121, hgyro .hz73, hgyro .hz53, hgyro .hz34, hgyro .hz25, hgyro .hz16⟩,
    fun x s hle => ?_, fun x s hgt => ?_,
    fun x => ⟨decode_append (op := .dec) (set := .abw) (by decide) x,
      decode_append (op := .dec) (set := .gbw) (by decide) x⟩⟩
  · exact ⟨answerDecode_of_mem (mem_regDiscs_abw_iff.mpr hle) s,
      answerDecode_of_mem (mem_regDiscs_gbw_iff.mpr hle) s⟩
  · obtain ⟨-, hexecA⟩ := decodeField_and_answerDecode_of_not_mem (F := accelBwField) (not_mem_regDiscs_abw hgt) s
    obtain ⟨-, hexecG⟩ := decodeField_and_answerDecode_of_not_mem (F := gyroBwField) (not_mem_regDiscs_gbw hgt) s
    exact ⟨hexecA, hexecG⟩

/-- FREQ.ABW answers the pattern of the bandwidth; only RESP changes. -/
theorem exec_freqAbw (v : AccelBw) {p : F32} (hp : accelBwHz params v = p) (s : State) :
    exec (.freqAbw v) s = .next { s with resp := { status := 0, data := p } } :=
  hp ▸ answerF32_eq _ s

/-- FREQ.GBW answers the pattern of the bandwidth; only RESP changes. -/
theorem exec_freqGbw (v : GyroBw) {p : F32} (hp : gyroBwHz params v = p) (s : State) :
    exec (.freqGbw v) s = .next { s with resp := { status := 0, data := p } } :=
  hp ▸ answerF32_eq _ s

/-- Settles O27: the sets share the constants of R110 and R115, whose patterns are computed, and an OPERAND that is
no discriminant of the set is refused. -/
theorem frequencyOfBandwidths : Obligations.FrequencyOfBandwidths := by
  have h180 : f32OfDecimal params.bwHz1 = 0x43340000 := by decide
  have h121 : f32OfDecimal params.bwHz2 = 0x42F20000 := by decide
  have h73 : f32OfDecimal params.bwHz3 = 0x42920000 := by decide
  have h53 : f32OfDecimal params.bwHz4 = 0x42540000 := by decide
  have h34 : f32OfDecimal params.bwHz5 = 0x42080000 := by decide
  have h25 : f32OfDecimal params.bwHz6 = 0x41C80000 := by decide
  have h16 : f32OfDecimal { digits := 16, places := 0 } = 0x41800000 := by decide
  refine ⟨fun s => ⟨exec_freqAbw .hz10000 (accelBwHz_hz10000 params) s, exec_freqAbw .hz180 h180 s,
    exec_freqAbw .hz121 h121 s, exec_freqAbw .hz73 h73 s, exec_freqAbw .hz53 h53 s, exec_freqAbw .hz34 h34 s,
    exec_freqAbw .hz25 h25 s, exec_freqAbw .hz16 h16 s, exec_freqGbw .hz10000 (gyroBwHz_hz10000 params) s,
    exec_freqGbw .hz180 h180 s, exec_freqGbw .hz121 h121 s, exec_freqGbw .hz73 h73 s, exec_freqGbw .hz53 h53 s,
    exec_freqGbw .hz34 h34 s, exec_freqGbw .hz25 h25 s, exec_freqGbw .hz16 h16 s⟩,
    fun x hgt => ⟨?_, ?_⟩⟩
  · exact answers_of_decodeVariantOperand_of_not_mem (op := .freq) (set := .abw) (by decide) rfl
      (not_mem_regDiscs_abw hgt)
  · exact answers_of_decodeVariantOperand_of_not_mem (op := .freq) (set := .gbw) (by decide) rfl
      (not_mem_regDiscs_gbw hgt)

end Sys2Proof.Machine

/-! ### The sensitivities and the parameters (spec 42_range R83, R88; 93_implementation_defined G1) -/

namespace Sys2Proof.Machine

/-- SCALE.ARANGE answers the pattern of the sensitivity; only RESP changes. -/
theorem exec_scaleArange (v : AccelRange) {p : F32} (hp : accelScale params v = p) (s : State) :
    exec (.scaleArange v) s = .next { s with resp := { status := 0, data := p } } :=
  hp ▸ answerF32_eq _ s

/-- SCALE.GRANGE answers the pattern of the sensitivity; only RESP changes. -/
theorem exec_scaleGrange (v : GyroRange) {p : F32} (hp : gyroScale params v = p) (s : State) :
    exec (.scaleGrange v) s = .next { s with resp := { status := 0, data := p } } :=
  hp ▸ answerF32_eq _ s

/-- Settles O24: the pattern of each sensitivity is computed, and an OPERAND that is no discriminant of the set is
refused. -/
theorem scaleAnswersTheSensitivity : Obligations.ScaleAnswersTheSensitivity := by
  refine ⟨fun s => ⟨exec_scaleArange .g16 (by decide) s, exec_scaleArange .g8 (by decide) s,
    exec_scaleArange .g4 (by decide) s, exec_scaleArange .g2 (by decide) s,
    exec_scaleGrange .deg2000 (by decide) s, exec_scaleGrange .deg1000 (by decide) s,
    exec_scaleGrange .deg500 (by decide) s, exec_scaleGrange .deg250 (by decide) s⟩, fun x hgt => ⟨?_, ?_⟩⟩
  · exact answers_of_decodeVariantOperand_of_not_mem (op := .scale) (set := .arange) (by decide) rfl
      (mt mem_regDiscs_arange_iff.mp hgt.not_ge)
  · exact answers_of_decodeVariantOperand_of_not_mem (op := .scale) (set := .grange) (by decide) rfl
      (mt mem_regDiscs_grange_iff.mp hgt.not_ge)

/-- Settles O25: the four constants are literals of the source, which no parameter enters. -/
theorem sourceConstantsHoldForEveryConfig : Obligations.SourceConstantsHoldForEveryConfig := by
  intro c
  have h2048 : f32OfRatio 2048 (10 ^ 0) = 0x45000000 := by decide
  have h131 : f32OfRatio 131 (10 ^ 0) = 0x43030000 := by decide
  have h16 : f32OfRatio 16 (10 ^ 0) = 0x41800000 := by decide
  exact ⟨h2048, h131, accelBwHz_hz10000 c, gyroBwHz_hz10000 c, h16, h16⟩

end Sys2Proof.Machine

/-! ### Address (spec 41_address R78, R79) and the words of every operation (30_encoding R55 to R58) -/

namespace Sys2Proof.Machine

/-- DFLT.ADDR answers the bus address of the default; only RESP changes. -/
theorem exec_dfltAddr (s : State) :
    exec .dfltAddr s = .next { s with resp := { status := 0, data := zext32 addressSet.dflt.disc } } :=
  answerDefault_eq addressSet s

/-- Settles O30: the default of Address is Primary and that of the bandwidths is code 1, and no DFLT command takes
an operand. -/
theorem defaultOfAddressAndBandwidths : Obligations.DefaultOfAddressAndBandwidths :=
  ⟨fun s => ⟨exec_dfltAddr s, exec_dfltInstr .abw s, exec_dfltInstr .gbw s⟩,
    answers_of_decodeNoOperand (op := .dflt) (set := .addr) rfl exec_dfltAddr, answers_dflt .abw, answers_dflt .gbw,
    fun _ hx => ⟨answers_of_decodeNoOperand_of_ne (op := .dflt) (set := .addr) (by decide) rfl hx,
      answers_dflt_of_ne .abw hx, answers_dflt_of_ne .gbw hx⟩⟩

/-- A command whose pair is blank in the table of R59 is refused, whatever its OPERAND. -/
theorem answers_of_blankPair {op : Op} {set : SetId} {high x : Byte}
    (hpair : decodePair op set x = .illegal .blankPair)
    (hhigh : (op.code ++ set.code : Byte) = high := by decide) : Answers (high ++ x) 2 0 :=
  answers_of_illegal ((decode_append hhigh x).trans hpair)

/-- Settles O33: the five pairs are blank in the table of R59. -/
theorem addressHasNoFieldOperations : Obligations.AddressHasNoFieldOperations := fun _ =>
  ⟨answers_of_blankPair (op := .mask) (set := .addr) rfl, answers_of_blankPair (op := .enc) (set := .addr) rfl,
    answers_of_blankPair (op := .dec) (set := .addr) rfl, answers_of_blankPair (op := .scale) (set := .addr) rfl,
    answers_of_blankPair (op := .freq) (set := .addr) rfl⟩

/-- Settles O5: each word is the encoding of its instruction. -/
theorem wordsOfEveryOperationDecode : Obligations.WordsOfEveryOperationDecode := by
  exact ⟨decodeOfEncodeIsTheInstruction .maskArange, decodeOfEncodeIsTheInstruction (.encPwr .sixAxisLowNoise),
    decodeOfEncodeIsTheInstruction (.decGodr 0xFF), decodeOfEncodeIsTheInstruction (.scaleGrange .deg250),
    decodeOfEncodeIsTheInstruction (.freqAodr .hz1_5625), decodeOfEncodeIsTheInstruction .dfltGbw,
    decodeOfEncodeIsTheInstruction (.addrAddr .secondary)⟩

end Sys2Proof.Machine

/-! ### PowerMode's sub-states and the missing gyroscope rates (spec 30_encoding R50; 44_odr R106) -/

namespace Sys2Proof.Machine

/-- Settles O37: the sub-states of each mode are computed, and 0b01110 is the discriminant of none. -/
theorem powerModeIsNotAProductOfSubStates : Obligations.PowerModeIsNotAProductOfSubStates := by
  refine ⟨fun v => ?_, by decide, by decide, by decide⟩
  cases v <;> decide

/-- A higher accelerometer code is a lower rate: the rate is 1600 halved once more for each code, exactly. -/
theorem accelOdrHz_lt_of_disc_lt {v u : AccelOdr} (h : u.disc.toNat < v.disc.toNat) :
    f32Units (accelOdrHz v).toNat < f32Units (accelOdrHz u).toNat := by
  obtain ⟨hle, -⟩ := mem_regDiscs_aodr_iff.mp (isFieldSet_accelOdr.disc_mem u)
  have hpow : 2 ^ (u.disc.toNat - 5) < 2 ^ (v.disc.toNat - 5) :=
    Nat.pow_lt_pow_right Nat.one_lt_two (Nat.sub_lt_sub_right hle h)
  have hv := f32Units_f32OfRatio_1600_mul_two_pow _ (accelOdr_halvings_lt v)
  have hu := f32Units_f32OfRatio_1600_mul_two_pow _ (accelOdr_halvings_lt u)
  rw [← accelOdrHz_eq] at hv hu
  have hpos : 0 < f32Units (accelOdrHz v).toNat := by
    refine Nat.pos_of_ne_zero fun hzero => ?_
    rw [hzero, Nat.zero_mul] at hv
    exact absurd hv (by decide)
  refine Nat.lt_of_mul_lt_mul_right (a := 2 ^ (u.disc.toNat - 5)) ?_
  calc f32Units (accelOdrHz v).toNat * 2 ^ (u.disc.toNat - 5)
      < f32Units (accelOdrHz v).toNat * 2 ^ (v.disc.toNat - 5) := Nat.mul_lt_mul_of_pos_left hpow hpos
    _ = f32Units (accelOdrHz u).toNat * 2 ^ (u.disc.toNat - 5) := hv.trans hu.symm

/-- The gyroscope's codes 5 to 12 are accelerometer codes. -/
theorem exists_accelOdr_of_gyroOdr (v : GyroOdr) : ∃ u : AccelOdr, u.disc = v.disc := by
  obtain ⟨hge, hle⟩ := mem_regDiscs_godr_iff.mp (isFieldSet_gyroOdr.disc_mem v)
  obtain ⟨u, -, hu⟩ := List.mem_map.mp (mem_regDiscs_aodr_iff.mpr ⟨hge, hle.trans (by decide)⟩)
  exact ⟨u, hu⟩

/-- Settles O38: 13, 14 and 15 are discriminants of AccelOdr alone, and a rate depends on the code alone. -/
theorem gyroOdrLacksTheThreeLowestRates : Obligations.GyroOdrLacksTheThreeLowestRates := by
  refine ⟨rfl, rfl, fun x hge hle => ⟨?_, ?_⟩, fun v u hv hu => accelOdrHz_lt_of_disc_lt (hu.trans_le hv),
    fun v => ?_⟩
  · have hmem : x ∈ regDiscs .aodr := mem_regDiscs_aodr_iff.mpr ⟨by omega, hle⟩
    obtain ⟨v, hv⟩ := (exists_lookup_iff_mem (S := accelOdrField.toVariantSet)).mpr hmem
    exact ⟨v, decodeField_eq_ok_iff_lookup.mpr hv⟩
  · have hnot : x ∉ regDiscs .godr := not_mem_regDiscs_godr (by omega)
    obtain ⟨hfail, -⟩ := decodeField_and_answerDecode_of_not_mem (F := gyroOdrField) hnot State.reset
    exact hfail
  · obtain ⟨u, hu⟩ := exists_accelOdr_of_gyroOdr v
    refine ⟨u, hu ▸ decodeField_disc lookup_accelOdr_disc u, ?_⟩
    rw [accelOdrHz_eq, gyroOdrHz_eq, hu]

end Sys2Proof.Machine

/-! ### The block as a function of CMD, and a step (spec 10_state R13, R25 to R27; 20_memory R41) -/

namespace Sys2Proof.Machine

/-- Only a decode gives a failure, and then INVALID_DISCRIMINANT with DATA 0; every other response is a success. -/
theorem decodeResponse_cases {V : Type} (F : FieldSet V) (x : Byte) :
    (decodeResponse F x).status = 0 ∨ decodeResponse F x = { status := 1, data := 0 } := by
  unfold decodeResponse decodeField
  cases lookup F.toVariantSet x with
  | some v => exact .inl rfl
  | none => exact .inr rfl

/-- What a response to an instruction is: a success, or INVALID_DISCRIMINANT with DATA 0. It is the same in every
state, and RESP alone changes. -/
theorem exists_response_exec (i : Instr) : ∃ r : Response, (r.status = 0 ∨ r = { status := 1, data := 0 }) ∧
    ∀ s : State, exec i s = .next { s with resp := r } := by
  by_cases h : i.op = .dec
  · obtain ⟨V, F, x, hdec⟩ := exec_eq_answerDecode h
    exact ⟨decodeResponse F x, decodeResponse_cases F x, fun s => (hdec s).trans (answerDecode_eq F x s)⟩
  · obtain ⟨d, hok⟩ := exec_eq_answerOk h
    exact ⟨{ status := 0, data := d }, .inl rfl, fun s => (hok s).trans (answerOk_eq d s)⟩

/-- RESP as a function of CMD (R25): what the block answers to the word `w`. -/
def responseTo (w : CmdWord) : Response :=
  match evaluate w State.reset with
  | .next s => s.resp
  | _ => State.reset.resp

/-- A word the block answers alike in every state has that answer as its response. -/
theorem responseTo_of_evaluate {w : CmdWord} {r : Response}
    (h : ∀ s : State, evaluate w s = .next { s with cmd := w, resp := r }) : responseTo w = r := by
  simp only [responseTo, h]

/-- A word that is answered in every state is answered with its response. -/
theorem responseTo_of_answers {w : CmdWord} {status : StatusCode} {data : Data} (h : Answers w status data) :
    responseTo w = { status, data } :=
  responseTo_of_evaluate h

/-- The response to a word that decodes to an instruction: a success, or INVALID_DISCRIMINANT with DATA 0. -/
theorem evaluate_instr {w : CmdWord} {i : Instr} (h : decode w = .instr i) :
    ((responseTo w).status = 0 ∨ responseTo w = { status := 1, data := 0 }) ∧
      ∀ s : State, evaluate w s = .next { s with cmd := w, resp := responseTo w } := by
  obtain ⟨r, hr, hexec⟩ := exists_response_exec i
  have hev : ∀ s : State, evaluate w s = .next { s with cmd := w, resp := r } := fun s =>
    (evaluate_of_instr h s).trans (hexec _)
  rw [responseTo_of_evaluate hev]
  exact ⟨hr, hev⟩

/-- Everything the block does with a word: CMD takes the word, RESP its response, nothing else changes. -/
theorem evaluate_eq (w : CmdWord) (s : State) : evaluate w s = .next { s with cmd := w, resp := responseTo w } := by
  cases h : decode w with
  | instr i =>
    obtain ⟨-, hev⟩ := evaluate_instr h
    exact hev s
  | illegal why =>
    rw [responseTo_of_answers (answers_of_illegal h)]
    exact answers_of_illegal h s

/-- Every response is conforming: a success, or a failure with DATA 0. -/
theorem responseTo_conforming (w : CmdWord) : (responseTo w).conforming = true := by
  cases h : decode w with
  | instr i =>
    obtain ⟨hok | hfail, -⟩ := evaluate_instr h
    · simp [Response.conforming, hok]
    · rw [hfail]; rfl
  | illegal why => rw [responseTo_of_answers (answers_of_illegal h)]; rfl

/-- Everything a step does: it presents the next word on CMD, answers it on RESP, and takes it from the waiting
requests. -/
theorem step_eq (s : State) :
    step s = .next { cmd := nextWord s, pending := s.pending.tail, resp := responseTo (nextWord s) } :=
  evaluate_eq (nextWord s) (takeRequest s)

/-- The step function read backwards. -/
theorem eq_of_step {s s' : State} (h : step s = .next s') :
    s' = { cmd := nextWord s, pending := s.pending.tail, resp := responseTo (nextWord s) } :=
  Host.Outcome.next.inj (h.symm.trans (step_eq s))

/-- A state is settled when RESP is the response to the word on CMD. -/
theorem settled_iff {s : State} : Settled s ↔ s.resp = responseTo s.cmd := by
  rw [Settled, step_eq, nextWord_none _ rfl, eq_comm (a := s.resp)]
  simp

/-- Settles O43: a step leaves the response to a word, and every such response is conforming. -/
theorem stepKeepsTheResponseConforming : Obligations.StepKeepsTheResponseConforming := by
  intro s s' _ hstep
  rw [eq_of_step hstep]
  exact responseTo_conforming (nextWord s)

/-- Settles O44: a step leaves the presented word on CMD and its response on RESP. -/
theorem stepKeepsTheResponseSettled : Obligations.StepKeepsTheResponseSettled := by
  intro s s' _ hstep
  rw [settled_iff, eq_of_step hstep]

/-- Settles O45: RESP after reset is the response to 0x0000, the word on CMD. -/
theorem resetIsConformingAndSettled : Obligations.ResetIsConformingAndSettled := by
  refine ⟨rfl, settled_iff.mpr ?_⟩
  exact (responseTo_of_answers (answers_of_illegal (why := .blankPair) (by decide))).symm

/-- Settles O42: the block answers every word. -/
theorem everyStepAnswersNext : Obligations.EveryStepAnswersNext := fun s => ⟨_, step_eq s⟩

/-- Settles O47: a step's CMD and RESP are functions of the presented word. -/
theorem responseDependsOnTheCommandAlone : Obligations.ResponseDependsOnTheCommandAlone := by
  intro s t h
  exact ⟨_, _, step_eq s, step_eq t, by rw [h], h⟩

/-- Settles O46: the values are those of `State.reset`, and both steps answer the same word. -/
theorem resetHoldsNothing : Obligations.ResetHoldsNothing := by
  refine ⟨rfl, rfl, rfl, fun w s s' t' hs ht => ?_⟩
  rw [eq_of_step hs, eq_of_step ht, nextWord_request _ w [] rfl, nextWord_request _ w s.pending rfl]

/-- Issued alone, a word gets its response. -/
theorem responseAlone_iff {w : CmdWord} {r : Response} : ResponseAlone w r ↔ r = responseTo w := by
  have hword : nextWord (State.reset.request w) = w := nextWord_request _ w [] rfl
  constructor
  · rintro ⟨s', hstep, rfl⟩
    rw [eq_of_step hstep, hword]
  · rintro rfl
    exact ⟨_, step_eq _, by rw [hword]⟩

/-- Settles O48, by induction on the requests before `w`: each step takes one request from the front. -/
theorem everyRequestIsAnsweredAsWhenAlone : Obligations.EveryRequestIsAnsweredAsWhenAlone := by
  intro s before w after hpending
  induction before generalizing s with
  | nil =>
    have hword : nextWord s = w := nextWord_request s w after hpending
    refine ⟨_, run_succ_of_step (step_eq s) 0, hword, ?_, responseAlone_iff.mpr (by rw [hword])⟩
    simp [hpending]
  | cons u before ih =>
    obtain ⟨s', hrun, hs'⟩ := ih { cmd := nextWord s, pending := s.pending.tail, resp := responseTo (nextWord s) }
      (by simp [hpending])
    exact ⟨s', (run_succ_of_step (step_eq s) _).trans hrun, hs'⟩

/-- Settles O40: the block drives the presented word and runs its instruction. -/
theorem stepRunsTheDecodedInstruction : Obligations.StepRunsTheDecodedInstruction := by
  refine ⟨fun s w rest i hpending hdec => ?_, fun s i hpending hdec => ?_⟩
  · rw [step_of_request hpending, evaluate_of_instr hdec]
  · rw [step_of_none hpending, evaluate_of_instr hdec]

/-- Settles O41: the block answers a refused word ILLEGAL_COMMAND. -/
theorem stepAnswersIllegalCommand : Obligations.StepAnswersIllegalCommand := by
  intro s w rest why hpending hdec
  rw [step_of_request hpending, evaluate_of_illegal hdec]

/-- Settles O34: a word the tables refuse decodes to no instruction; one that passes decodes to an instruction,
whose response is a success or INVALID_DISCRIMINANT. -/
theorem exactlyIllegalWordsAnswerIllegalCommand : Obligations.ExactlyIllegalWordsAnswerIllegalCommand := by
  intro w
  have hlegal := decoderAcceptsExactlyTheLegalCommands w
  refine ⟨fun hillegal => ?_, fun hwf s s' hev => ?_⟩
  · cases hdec : decode w with
    | instr i => exact absurd (hlegal.mp ⟨i, hdec⟩) (by simp [hillegal])
    | illegal why => exact answers_of_illegal hdec
  · obtain ⟨i, hdec⟩ := hlegal.mpr hwf
    rw [evaluate_eq] at hev
    cases hev
    obtain ⟨hok | hfail, -⟩ := evaluate_instr hdec
    · simp [hok]
    · simp [hfail]

end Sys2Proof.Machine

/-! ### The caller's sequences EXT and INS (spec 30_encoding R66; 70_reset_and_hazards R141 to R144) -/

namespace Sys2Proof.Machine

/-- A command's result is what reading its response tells. -/
theorem command_of_answers {w : CmdWord} {status : StatusCode} {data : Data} (h : Answers w status data) :
    command w = observe { status, data } := by
  simp only [command, h State.reset]

@[simp] theorem lowByte_zext32 (b : Byte) : lowByte (zext32 b) = b := by
  simp [lowByte, zext32]

/-- The caller's MASK command gives the mask. -/
theorem command_mask (f : RegSet) : command (cmdWord .mask (regSetId f) 0) = .next (.ok (zext32 (regMask f))) :=
  command_of_answers (answers_mask f)

/-- EXT is the DEC command of the prepared field. -/
theorem extField_eq (f : RegSet) (r : Byte) :
    extField f r = command (cmdWord .dec (regSetId f) (prepareField f r)) := by
  simp only [extField, command_mask, andThen, lowByte_zext32, trailingZeros_regMask, prepareField]

theorem extField_of_mem {f : RegSet} {r : Byte} (h : prepareField f r ∈ regDiscs f) :
    extField f r = .next (.ok (zext32 (prepareField f r))) :=
  (extField_eq f r).trans (command_of_answers (answers_dec_of_mem h))

theorem extField_of_not_mem {f : RegSet} {r : Byte} (h : prepareField f r ∉ regDiscs f) :
    extField f r = .next (.fail .invalidDiscriminant) :=
  (extField_eq f r).trans (command_of_answers (answers_dec_of_not_mem h))

/-- The register byte `r` with the field of `f` cleared and `v` shifted into it. -/
def insertedByte (f : RegSet) (r v : Byte) : Byte := r &&& ~~~ regMask f ||| v <<< regShift f

theorem insField_of_mem {f : RegSet} {r v : Byte} (hv : v ∈ regDiscs f) :
    insField f r v = .next (.ok (insertedByte f r v)) := by
  have henc : command (cmdWord .enc (regSetId f) v) = .next (.ok (zext32 (v <<< regShift f))) :=
    command_of_answers (answers_enc_of_mem hv rfl)
  simp only [insField, command_mask, henc, andThen, lowByte_zext32, insertedByte]

theorem insField_of_not_mem {f : RegSet} {r v : Byte} (hv : v ∉ regDiscs f) :
    insField f r v = .next (.fail .illegalCommand) := by
  have henc : command (cmdWord .enc (regSetId f) v) = .next (.fail .illegalCommand) :=
    command_of_answers (answers_enc_of_not_mem hv rfl)
  simp only [insField, command_mask, henc, andThen]

/-- Inside the mask, the inserted byte holds the shifted variant alone. -/
theorem insertedByte_and_regMask (f : RegSet) (r v : Byte) :
    insertedByte f r v &&& regMask f = v <<< regShift f &&& regMask f := by
  have hcleared : r &&& ~~~ regMask f &&& regMask f = 0 := by
    rw [BitVec.and_assoc, BitVec.not_and_self]
    exact BitVec.and_zero
  rw [insertedByte, BitVec.and_or_distrib_right, hcleared]
  exact BitVec.zero_or

/-- In bits that the mask does not have, the inserted byte holds the bits of `r`. -/
theorem insertedByte_and_of_disjoint {f : RegSet} {v k : Byte} (hv : v ∈ regDiscs f) (hk : regMask f &&& k = 0)
    (r : Byte) : insertedByte f r v &&& k = r &&& k := by
  have hinside := shiftLeft_and_regMask hv
  unfold insertedByte
  ext i hi
  have hinside_i := congrArg (·[i]) hinside
  have hk_i := congrArg (·[i]) hk
  simp only [BitVec.getElem_and, BitVec.getElem_or, BitVec.getElem_not] at *
  grind

/-- Settles O49: EXT is a DEC command of the prepared field. -/
theorem extDecodesThePreparedField : Obligations.ExtDecodesThePreparedField := fun _ _ =>
  ⟨extField_of_mem, extField_of_not_mem⟩

/-- Settles O50: the field of the inserted byte holds the variant, and its other bits are those of `r`. -/
theorem insThenExtGivesTheVariantBack : Obligations.InsThenExtGivesTheVariantBack := by
  intro f r v hv
  have hprepared : prepareField f (insertedByte f r v) = v :=
    calc prepareField f (insertedByte f r v)
        = prepareField f (v <<< regShift f) := by simp only [prepareField, insertedByte_and_regMask]
      _ = v := prepareField_shiftLeft hv
  have hmem : prepareField f (insertedByte f r v) ∈ regDiscs f := by rwa [hprepared]
  refine ⟨insertedByte f r v, insField_of_mem hv, ?_, insertedByte_and_of_disjoint hv (BitVec.and_not_self _) r⟩
  rw [extField_of_mem hmem, hprepared]

/-- Settles O51: a disjoint field is prepared from bits that INS keeps. -/
theorem insKeepsDisjointFields : Obligations.InsKeepsDisjointFields := by
  intro f g r v hfg hv
  refine ⟨insertedByte f r v, insField_of_mem hv, ?_⟩
  have hmasks : regMask f &&& regMask g = 0 := eq_of_beq hfg
  rw [extField_eq, extField_eq, prepareField, prepareField, insertedByte_and_of_disjoint hv hmasks]

/-- Settles O52: the ENC command of INS is refused. -/
theorem insOfNoVariantFails : Obligations.InsOfNoVariantFails := fun _ _ _ => insField_of_not_mem

end Sys2Proof.Machine

/-! ### The primitive f32 is nearest, ties to even (spec 00_scope R9; 93_implementation_defined G1) -/

namespace Sys2Proof.Machine

/-- Rounding `n / d`: `n` is `q` times `d` and a remainder, and the quotient goes up exactly when the remainder is
over half of `d`, or half of it with `q` odd. -/
theorem roundHalfEven_cases (n : Nat) {d : Nat} (hd : 0 < d) : ∃ q r, n = q * d + r ∧ r < d ∧
    ((roundHalfEven n d = q ∧ 2 * r ≤ d ∧ (2 * r = d → q % 2 = 0)) ∨
      (roundHalfEven n d = q + 1 ∧ d ≤ 2 * r ∧ (2 * r = d → (q + 1) % 2 = 0))) := by
  refine ⟨n / d, n % d, (Nat.div_add_mod' n d).symm, Nat.mod_lt n hd, ?_⟩
  simp only [roundHalfEven]
  split_ifs <;> omega

/-- Rounding gives a nearest multiple of `d`, and where another multiple is as near, an even one. -/
theorem roundHalfEven_nearest (n : Nat) {d : Nat} (hd : 0 < d) (k : Nat) :
    ((roundHalfEven n d * d : Int) - n).natAbs ≤ ((k * d : Int) - n).natAbs ∧
    (k ≠ roundHalfEven n d →
      ((roundHalfEven n d * d : Int) - n).natAbs = ((k * d : Int) - n).natAbs → roundHalfEven n d % 2 = 0) := by
  obtain ⟨q, r, rfl, hr, hround⟩ := roundHalfEven_cases n hd
  have hsucc : ((q + 1 : Nat) * d : Int) = q * d + d := by push_cast; ring
  have hk : k * d + d ≤ q * d ∨ k = q ∨ k = q + 1 ∨ q * d + 2 * d ≤ k * d := by
    rw [← Nat.add_one_mul, ← Nat.add_mul, Nat.mul_le_mul_right_iff hd, Nat.mul_le_mul_right_iff hd]
    omega
  obtain ⟨hround, hhalf⟩ | ⟨hround, hhalf⟩ := hround
  all_goals
    rw [hround]
    obtain hbelow | rfl | rfl | habove := hk <;> omega

theorem roundHalfEven_le {n d m : Nat} (hd : 0 < d) (h : n < m * d) : roundHalfEven n d ≤ m := by
  obtain ⟨q, r, rfl, hr, hround⟩ := roundHalfEven_cases n hd
  have hq : q < m := Nat.lt_of_mul_lt_mul_right (Nat.lt_of_le_of_lt (Nat.le_add_right _ r) h)
  omega

theorem le_roundHalfEven {n d m : Nat} (hd : 0 < d) (h : m * d ≤ n) : m ≤ roundHalfEven n d := by
  obtain ⟨q, r, rfl, hr, hround⟩ := roundHalfEven_cases n hd
  have hq : m < q + 1 := Nat.lt_of_mul_lt_mul_right (a := d) (by rw [Nat.add_one_mul]; omega)
  omega

/-- A pattern of binade `b` and significand `r` stands for `r * 2 ^ b` units, whether the significand is subnormal,
normal, or has rounded up to 2^24. -/
theorem f32Units_significand {b r : Nat} (hnormal : 2 ^ 23 ≤ r ∨ b = 0) (hr : r ≤ 2 ^ 24) :
    f32Units (b * 2 ^ 23 + r) = r * 2 ^ b := by
  obtain hsub | hnorm | rfl : r < 2 ^ 23 ∨ (2 ^ 23 ≤ r ∧ r < 2 ^ 24) ∨ r = 2 ^ 24 := by omega
  · obtain rfl : b = 0 := hnormal.resolve_left (by omega)
    have hexp : (0 * 2 ^ 23 + r) / 2 ^ 23 = 0 := by omega
    have hfrac : (0 * 2 ^ 23 + r) % 2 ^ 23 = r := by omega
    rw [f32Units, if_pos hexp, hfrac, Nat.pow_zero, Nat.mul_one]
  · have hexp : (b * 2 ^ 23 + r) / 2 ^ 23 = b + 1 := by omega
    have hfrac : 2 ^ 23 + (b * 2 ^ 23 + r) % 2 ^ 23 = r := by omega
    rw [f32Units, hexp, hfrac, if_neg (Nat.succ_ne_zero b), Nat.add_sub_cancel]
  · have hexp : (b * 2 ^ 23 + 2 ^ 24) / 2 ^ 23 = b + 2 := by omega
    have hfrac : (b * 2 ^ 23 + 2 ^ 24) % 2 ^ 23 = 0 := by omega
    rw [f32Units, hexp, hfrac, if_neg (Nat.succ_ne_zero (b + 1))]
    change 2 ^ 23 * 2 ^ (b + 1) = 2 ^ 24 * 2 ^ b
    ring

/-- Every pattern has a binade and a significand. -/
theorem exists_significand (p : Nat) : ∃ b r, p = b * 2 ^ 23 + r ∧ (2 ^ 23 ≤ r ∨ b = 0) ∧ r < 2 ^ 24 :=
  ⟨p / 2 ^ 23 - 1, p - (p / 2 ^ 23 - 1) * 2 ^ 23, by omega, by omega, by omega⟩

/-- A larger pattern stands for a larger value. -/
theorem f32Units_strictMono : StrictMono f32Units := by
  refine strictMono_nat_of_lt_succ fun p => ?_
  obtain ⟨b, r, rfl, hnormal, hr⟩ := exists_significand p
  rw [Nat.add_assoc, f32Units_significand hnormal hr.le, f32Units_significand (by omega) hr]
  exact Nat.mul_lt_mul_of_pos_right (Nat.lt_succ_self r) (Nat.two_pow_pos b)

/-- From the first normal pattern of a binade on, every value is a multiple of that binade's unit. -/
theorem two_pow_dvd_f32Units {b p : Nat} (hp : (b + 1) * 2 ^ 23 ≤ p ∨ b = 0) : 2 ^ b ∣ f32Units p := by
  obtain ⟨c, r, rfl, hnormal, hr⟩ := exists_significand p
  rw [f32Units_significand hnormal hr.le]
  exact Dvd.dvd.mul_left (Nat.pow_dvd_pow 2 (by omega)) r

/-- The unit of the binade of `n / d` gives a significand below 2^24, and a normal one except in binade 0. -/
theorem f32Binade_bounds (n : Nat) {d : Nat} (hd : 0 < d) :
    n * 2 ^ 149 < 2 ^ 24 * (d * 2 ^ f32Binade n d) ∧
      (2 ^ 23 * (d * 2 ^ f32Binade n d) ≤ n * 2 ^ 149 ∨ f32Binade n d = 0) := by
  have hunit : ∀ k, 2 ^ k * (d * 2 ^ f32Binade n d) = 2 ^ (k + f32Binade n d) * d := fun k => by ring
  have hbinade : f32Binade n d = Nat.log2 (n * 2 ^ 149 / d) - 23 := rfl
  rw [hunit, hunit, ← Nat.div_lt_iff_lt_mul hd, ← Nat.le_div_iff_mul_le hd]
  constructor
  · calc n * 2 ^ 149 / d < 2 ^ (Nat.log2 (n * 2 ^ 149 / d) + 1) := Nat.lt_log2_self
      _ ≤ 2 ^ (24 + f32Binade n d) := Nat.pow_le_pow_right Nat.two_pos (by omega)
  · rw [or_iff_not_imp_right]
    intro hpos
    have hexp : 23 + f32Binade n d = Nat.log2 (n * 2 ^ 149 / d) := by omega
    have hne : n * 2 ^ 149 / d ≠ 0 := by
      intro hzero
      rw [hbinade, hzero] at hpos
      exact hpos rfl
    rw [hexp]
    exact Nat.log2_self_le hne

/-- The significand of the pattern computed for `n / d`. -/
def f32Significand (n d : Nat) : Nat := roundHalfEven (n * 2 ^ 149) (d * 2 ^ f32Binade n d)

theorem f32Significand_le (n : Nat) {d : Nat} (hd : 0 < d) : f32Significand n d ≤ 2 ^ 24 :=
  roundHalfEven_le (Nat.mul_pos hd (Nat.two_pow_pos _)) (f32Binade_bounds n hd).1

theorem f32Significand_normal (n : Nat) {d : Nat} (hd : 0 < d) : 2 ^ 23 ≤ f32Significand n d ∨ f32Binade n d = 0 :=
  (f32Binade_bounds n hd).2.imp_left (le_roundHalfEven (Nat.mul_pos hd (Nat.two_pow_pos _)))

theorem f32Pattern_eq_of_lt {n d : Nat} (h : f32Pattern n d < 0x7F800000) :
    f32Pattern n d = f32Binade n d * 2 ^ 23 + f32Significand n d := by
  have hmin : f32Pattern n d = min (f32Binade n d * 2 ^ 23 + f32Significand n d) 0x7F800000 := rfl
  omega

/-- A finite computed pattern stands for its significand in the unit of its binade. -/
theorem f32Units_f32Pattern {n d : Nat} (hd : 0 < d) (h : f32Pattern n d < 0x7F800000) :
    f32Units (f32Pattern n d) = f32Significand n d * 2 ^ f32Binade n d := by
  rw [f32Pattern_eq_of_lt h, f32Units_significand (f32Significand_normal n hd) (f32Significand_le n hd)]

/-- How far `u` units are from `n / d`, counted in units of 2^-149 / d. -/
def f32Error (n d u : Nat) : Nat := ((u * d : Int) - n * 2 ^ 149).natAbs

/-- Below `n / d`, a larger value is nearer. -/
theorem f32Error_lt_of_lt {n d u m : Nat} (hd : 0 < d) (hum : u < m) (hm : m * d ≤ n * 2 ^ 149) :
    f32Error n d m < f32Error n d u := by
  have hless : u * d < m * d := Nat.mul_lt_mul_of_pos_right hum hd
  unfold f32Error
  zify at hless hm
  omega

/-- Of the multiples of the binade's unit, the significand gives a nearest one, and where another is as near, an
even one. -/
theorem f32Significand_nearest (n : Nat) {d : Nat} (hd : 0 < d) (k : Nat) :
    f32Error n d (f32Significand n d * 2 ^ f32Binade n d) ≤ f32Error n d (k * 2 ^ f32Binade n d) ∧
    (k ≠ f32Significand n d →
      f32Error n d (f32Significand n d * 2 ^ f32Binade n d) = f32Error n d (k * 2 ^ f32Binade n d) →
      f32Significand n d % 2 = 0) := by
  have herror : ∀ j : Nat, f32Error n d (j * 2 ^ f32Binade n d) =
      ((j * (d * 2 ^ f32Binade n d : Nat) : Int) - (n * 2 ^ 149 : Nat)).natAbs := by
    intro j
    unfold f32Error
    push_cast
    congr 2
    ring
  rw [herror, herror]
  exact roundHalfEven_nearest (n * 2 ^ 149) (Nat.mul_pos hd (Nat.two_pow_pos _)) k

/-- Below the first normal pattern of its binade, every pattern is farther from `n / d` than the computed one. -/
theorem f32Error_f32Pattern_lt {n d p : Nat} (hd : 0 < d) (hfinite : f32Pattern n d < 0x7F800000)
    (hp : p < (f32Binade n d + 1) * 2 ^ 23) (hpos : f32Binade n d ≠ 0) :
    f32Error n d (f32Units (f32Pattern n d)) < f32Error n d (f32Units p) := by
  have hfirst : f32Units (f32Binade n d * 2 ^ 23 + 2 ^ 23) = 2 ^ 23 * 2 ^ f32Binade n d :=
    f32Units_significand (.inl le_rfl) (by decide)
  have hbelow : f32Units p < 2 ^ 23 * 2 ^ f32Binade n d := hfirst ▸ f32Units_strictMono (by omega)
  have hlow : 2 ^ 23 * 2 ^ f32Binade n d * d ≤ n * 2 ^ 149 := by
    rw [Nat.mul_assoc, Nat.mul_comm _ d]
    exact (f32Binade_bounds n hd).2.resolve_right hpos
  obtain ⟨hnearest, -⟩ := f32Significand_nearest n hd (2 ^ 23)
  rw [f32Units_f32Pattern hd hfinite]
  exact hnearest.trans_lt (f32Error_lt_of_lt hd hbelow hlow)

/-- Settles O39: a pattern below the computed one's binade is farther; any other stands for a multiple of the
binade's unit, of which the significand is rounded to a nearest one. -/
theorem f32IsNearestTiesToEven : Obligations.F32IsNearestTiesToEven := by
  intro n d p hd hfinite _
  change f32Error n d (f32Units (f32Pattern n d)) ≤ f32Error n d (f32Units p) ∧
    (p ≠ f32Pattern n d → f32Error n d (f32Units (f32Pattern n d)) = f32Error n d (f32Units p) →
      f32Pattern n d % 2 = 0)
  by_cases hbelow : p < (f32Binade n d + 1) * 2 ^ 23 ∧ f32Binade n d ≠ 0
  · have hlt := f32Error_f32Pattern_lt hd hfinite hbelow.1 hbelow.2
    exact ⟨hlt.le, fun _ heq => absurd heq hlt.ne⟩
  · obtain ⟨k, hk⟩ : 2 ^ f32Binade n d ∣ f32Units p := two_pow_dvd_f32Units (by omega)
    rw [Nat.mul_comm] at hk
    obtain ⟨hnearest, htie⟩ := f32Significand_nearest n hd k
    have hunits := f32Units_f32Pattern hd hfinite
    rw [hunits, hk]
    refine ⟨hnearest, fun hp heq => ?_⟩
    have hne : k ≠ f32Significand n d := by
      rintro rfl
      exact hp (f32Units_strictMono.injective (hk.trans hunits.symm))
    have heven := htie hne heq
    have hpattern := f32Pattern_eq_of_lt hfinite
    omega

end Sys2Proof.Machine
